-- ==== Sys2Proof/Config.lean ====
section
/-! DEFINITION. What an implementation of BMAP fixes (spec/00_scope.md R5, R6; spec/93_implementation_defined.md
section 2) and the free values of the spec (spec/93_implementation_defined.md section 1), each an uninterpreted
constant with no body. -/

namespace Sys2Proof

/-- The base-field modulus, R6. -/
abbrev Config.p : Nat :=
  0x1a0111ea397fe69a4b1ba7b6434bacd764774b84f38512bf6730d2a0f6b0f6241eabfffeb153ffffb9feffffffffaaab

/-- The two open size parameters of R5, `IMEM_WORDS` and `DMEM_BYTES`. They are carried in the state as data that
no step changes, so that a statement about every state is a statement about every implementation (log 1). -/
structure Config.Sizes where
  imemWords : Nat
  dmemBytes : Nat
  deriving DecidableEq, Repr

/-- The default sizes of R5. -/
def Config.defaultSizes : Config.Sizes := { imemWords := 4096, dmemBytes := 65536 }

/-- The ranges R5 allows. -/
def Config.Sizes.legal (z : Config.Sizes) : Bool :=
  (1 ≤ z.imemWords && z.imemWords ≤ 65536) && (96 ≤ z.dmemBytes && z.dmemBytes ≤ 65536)

/-- FREE VALUE (U2, R61): the byte DMEM holds at an address from a hard reset until it is first written.
First argument: which hard reset; second: the address. DESIGN CHOICE on its arguments, safe (log 2). -/
opaque Config.dmemPowerOn : Nat → Nat → BitVec 8

/-- FREE VALUE (U3, R60): the word IMEM holds at an index from a hard reset until it is first written.
First argument: which hard reset; second: the index. DESIGN CHOICE on its arguments, safe (log 3). -/
opaque Config.imemPowerOn : Nat → Nat → BitVec 32

/-- FREE VALUE (U1, R319, R320): coordinate `i` of the value that draw `n` of a cyclotomic operation outside the
cyclotomic subgroup produces, before it is reduced modulo `p`. DESIGN CHOICE on its arguments, safe (log 4). -/
opaque Config.cycDraw : Nat → Nat → Nat

/-- FREE VALUE (U4, R62): what host access number `n` to DMEM address `a` returns while RUNNING (log 10). -/
opaque Config.busyDmemRead : Nat → Nat → BitVec 8

/-- FREE VALUE (U4, R62): what host access number `n` to IMEM index `i` returns while RUNNING (log 10). -/
opaque Config.busyImemRead : Nat → Nat → BitVec 32

/-- PARAMETER (R62): where the platform maps the host registers; BMAP never sees it (log 18). -/
opaque Config.csrBase : Nat

/-- PARAMETER (R62): where the platform maps the IMEM window; BMAP never sees it (log 18). -/
opaque Config.imemBase : Nat

/-- PARAMETER (R62): where the platform maps the DMEM window; BMAP never sees it (log 18). -/
opaque Config.dmemBase : Nat

end Sys2Proof
end

