-- ==== Sys2Proof/Word.lean ====
section
/-! DEFINITION. The value shapes of spec/00_scope.md R14 and R15: field elements of the tower and projective
points. An `Fp` is an integer below `p`, so an element is reduced by its type (R15, R150) and equality of elements
is equality of representations. -/

namespace Sys2Proof

/-- An element of Fp: an integer `0 ≤ v < p` (R150). -/
abbrev Fp : Type := Fin Config.p

/-- The residue of an integer modulo `p` (R13). -/
def Fp.ofNat (n : Nat) : Fp := ⟨n % Config.p, Nat.mod_lt _ (by decide)⟩

/-- An element `c0 + c1·u` of Fp2 (R200). -/
structure Fp2 where
  c0 : Fp
  c1 : Fp
  deriving DecidableEq, Repr

/-- An element `c0 + c1·v + c2·v²` of Fp6 (R250). -/
structure Fp6 where
  c0 : Fp2
  c1 : Fp2
  c2 : Fp2
  deriving DecidableEq, Repr

/-- An element `c0 + c1·w` of Fp12 (R300). -/
structure Fp12 where
  c0 : Fp6
  c1 : Fp6
  deriving DecidableEq, Repr

/-- A projective triple over a coordinate field (R360): any triple, on the curve or not. -/
structure Proj (F : Type) where
  x : F
  y : F
  z : F
  deriving DecidableEq, Repr

/-- A G1 triple, the contents of a `g` register (R30). -/
abbrev G1Point : Type := Proj Fp

/-- A G2 triple, the contents of an `h` register (R31). -/
abbrev G2Point : Type := Proj Fp2

end Sys2Proof
end

