-- ==== Sys2Proof/Machine/Numeric.lean ====
section
/-! DEFINITION. The number helpers every rule uses: powers (R157, R205, R255, R305), the extended Euclidean algorithm
(R158), the big-endian spelling of integers (R63) and the signed reading of a 16-bit field (R13). -/

namespace Sys2Proof

/-- `a` raised to the low `n` bits' worth of `e`, most significant bit first. -/
def powBits {α : Type} (mul : α → α → α) (one a : α) : Nat → Nat → α
  | 0, _ => one
  | n + 1, e =>
    let h := powBits mul one a n (e / 2)
    if e % 2 = 1 then mul (mul h h) a else mul h h

/-- The product of `e` copies of `a`, the empty product being `one` (R157, R205). The value is the mathematical
power, so the method cannot be observed (R157). -/
def powBy {α : Type} (mul : α → α → α) (one a : α) (e : Nat) : α := powBits mul one a (Nat.log2 e + 1) e

/-- The loop of R158 on `(r0, r1, s0, s1)`, the first argument bounding its passes. -/
def euclid : Nat → Nat → Nat → Int → Int → Int
  | 0, _, _, s0, _ => s0
  | n + 1, r0, r1, s0, s1 => if r1 = 0 then s0 else euclid n r1 (r0 % r1) s1 (s0 - (r0 / r1 : Nat) * s1)

/-- `be_n(v)`: the `n`-byte big-endian spelling of `v` (R63). -/
def beBytes (n v : Nat) : List (BitVec 8) :=
  (List.range n).map fun i => BitVec.ofNat 8 (v / 256 ^ (n - 1 - i))

/-- `from_be(bytes)`, the inverse of `be_n` (R63). -/
def fromBe (bytes : List (BitVec 8)) : Nat := bytes.foldl (fun n b => 256 * n + b.toNat) 0

/-- `a` plus the signed reading of `v`, modulo 2^16 (R13, R98, R133). -/
def addSext16 (a v : BitVec 16) : BitVec 16 := BitVec.ofInt 16 ((a.toNat : Int) + v.toInt)

end Sys2Proof
end

