-- ==== Sys2Proof/Machine/Constants.lean ====
section
/-! DEFINITION. The fixed values of the hardware (spec/10_state.md R44): spec/00_scope.md R7 to R11,
spec/44_fp12.md R316, spec/46_g2.md R411, spec/10_state.md R35. They are not state. -/

namespace Sys2Proof

/-- The group order (R7). -/
def orderR : Nat := 0x73eda753299d7d483339d80809a1d80553bda402fffe5bfeffffffff00000001

/-- `X`, the absolute value of the seed (R8). -/
def seedX : Nat := 0xd201000000010000

/-- `E = (p¹² − 1)/r`, the final exponent (R11). -/
def finalExponent : Nat := (Config.p ^ 12 - 1) / orderR

/-- `INV2 = (p + 1)/2` (R160). -/
def inv2 : Fp := Fp.ofNat ((Config.p + 1) / 2)

/-- `SQRT_EXP = (p + 1)/4` (R161). -/
def sqrtExp : Nat := (Config.p + 1) / 4

/-- The exponent of Euler's criterion, `(p − 1)/2` (R163). -/
def eulerExp : Nat := (Config.p - 1) / 2

/-- `CA` (R316). -/
def rootCA : Nat :=
  0x1a0111ea397fe699ec02408663d4de85aa0d857d89759ad4897d29650fb85f9b409427eb4f49fffd8bfd00000000aaac

/-- `CB` (R316). -/
def rootCB : Nat :=
  0x00000000000000005f19672fdf76ce51ba69c6076a0f77eaddb3a93be6f89688de17d813620a00022e01fffffffefffe

/-- `W1a` (R316). -/
def frobW1a : Nat :=
  0x1904d3bf02bb0667c231beb4202c0d1f0fd603fd3cbd5f4f7b2443d784bab9c4f67ea53d63e7813d8d0775ed92235fb8
/-- `W1b` (R316). -/
def frobW1b : Nat :=
  0x00fc3e2b36c4e03288e9e902231f9fb854a14787b6c7b36fec0c8ec971f63c5f282d5ac14d6c7ec22cf78a126ddc4af3
/-- `W3a` (R316). -/
def frobW3a : Nat :=
  0x135203e60180a68ee2e9c448d77a2cd91c3dedd930b1cf60ef396489f61eb45e304466cf3e67fa0af1ee7b04121bdea2
/-- `W3b` (R316). -/
def frobW3b : Nat :=
  0x06af0e0437ff400b6831e36d6bd17ffe48395dabc2d3435e77f76e17009241c5ee67992f72ec05f4c81084fbede3cc09
/-- `W5a` (R316). -/
def frobW5a : Nat :=
  0x144e4211384586c16bd3ad4afa99cc9170df3560e77982d0db45f3536814f0bd5871c1908bd478cd1ee605167ff82995
/-- `W5b` (R316). -/
def frobW5b : Nat :=
  0x05b2cfd9013a5fd8df47fa6b48b1e045f39816240c0b8fee8beadf4d8e9c0566c63a3e6e257f87329b18fae980078116

/-- The Fp2 element `(a, b)` of two integers. -/
def mkFp2 (a b : Nat) : Fp2 := { c0 := Fp.ofNat a, c1 := Fp.ofNat b }

/-- `ξ = (1, 1)` (R10). -/
def xi : Fp2 := mkFp2 1 1

/-- The Frobenius coefficients `G6(m, 1)` (R316); the table of `m = 0..5`. -/
def frobG6_1 : Nat → Fp2
  | 0 => mkFp2 1 0
  | 1 => mkFp2 0 rootCA
  | 2 => mkFp2 rootCB 0
  | 3 => mkFp2 0 1
  | 4 => mkFp2 rootCA 0
  | _ => mkFp2 0 rootCB

/-- The Frobenius coefficients `G6(m, 2)` (R316); the table of `m = 0..5`. -/
def frobG6_2 : Nat → Fp2
  | 0 => mkFp2 1 0
  | 1 => mkFp2 (rootCA + 1) 0
  | 2 => mkFp2 rootCA 0
  | 3 => mkFp2 (Config.p - 1) 0
  | 4 => mkFp2 rootCB 0
  | _ => mkFp2 (rootCB + 1) 0

/-- The Frobenius coefficients `G12(n)` (R316); the table of `n = 0..11`. -/
def frobG12 : Nat → Fp2
  | 0 => mkFp2 1 0
  | 1 => mkFp2 frobW1a frobW1b
  | 2 => mkFp2 (rootCB + 1) 0
  | 3 => mkFp2 frobW3a frobW3b
  | 4 => mkFp2 rootCB 0
  | 5 => mkFp2 frobW5a frobW5b
  | 6 => mkFp2 (Config.p - 1) 0
  | 7 => mkFp2 frobW1b frobW1a
  | 8 => mkFp2 rootCA 0
  | 9 => mkFp2 frobW3b frobW3a
  | 10 => mkFp2 (rootCA + 1) 0
  | _ => mkFp2 frobW5b frobW5a

/-- `PSI_CX = (0, CA1)` (R411). -/
def psiCx : Fp2 := mkFp2 0 (rootCA + 1)

/-- `PSI_CY = (W3a, W3b)` (R411). -/
def psiCy : Fp2 := mkFp2 frobW3a frobW3b

/-- `PSI2_CX = (CA, 0)` (R411). -/
def psi2Cx : Fp2 := mkFp2 rootCA 0

/-- The value of the `ID` register (R35). -/
def idValue : BitVec 32 := 0x424D0100

end Sys2Proof
end

