-- ==== Sys2Proof/Machine/Fp.lean ====
section
/-! DEFINITION. The prime-field functions, spec/41_fp.md section 1 (R150 to R166). -/

namespace Sys2Proof

/-- `ZERO_Fp` (R150). -/
def Fp.zero : Fp := Fp.ofNat 0

/-- `ONE_Fp` (R150). -/
def Fp.one : Fp := Fp.ofNat 1

/-- R151. -/
def Fp.add (a b : Fp) : Fp := Fp.ofNat (a.val + b.val)

/-- R152. -/
def Fp.neg (a : Fp) : Fp := Fp.ofNat (Config.p - a.val)

/-- R153. -/
def Fp.sub (a b : Fp) : Fp := Fp.add a (Fp.neg b)

/-- R154: the exact product, then reduced. -/
def Fp.mul (a b : Fp) : Fp := Fp.ofNat (a.val * b.val)

/-- R155. -/
def Fp.sqr (a : Fp) : Fp := Fp.mul a a

/-- R155. -/
def Fp.cube (a : Fp) : Fp := Fp.mul (Fp.mul a a) a

/-- R156: `n` is a plain integer, not required to be below `p`. -/
def Fp.scale (a : Fp) (n : Nat) : Fp := Fp.ofNat (a.val * n)

/-- R157. -/
def Fp.pow (a : Fp) (e : Nat) : Fp := powBy Fp.mul Fp.one a e

/-- R158: none where the rule raises `INV_ZERO`. 768 passes are more than the algorithm takes on two numbers of 381
bits, the larger of which at least halves every two passes (DEDUCED, log 11). -/
def Fp.inv (a : Fp) : Option Fp :=
  if a = Fp.zero then none else some (Fp.ofNat (euclid 768 Config.p a.val 0 1 % (Config.p : Int)).toNat)

/-- R159: none where the rule raises `INV_ZERO`. -/
def Fp.div (a b : Fp) : Option Fp := (Fp.inv b).map (Fp.mul a)

/-- R160. -/
def Fp.halve (a : Fp) : Fp := Fp.mul a inv2

/-- R161: none where the rule raises `NO_SQRT`. -/
def Fp.sqrt (a : Fp) : Option Fp :=
  let r := Fp.pow a sqrtExp
  if Fp.sqr r = a then some r else none

/-- R162. -/
def Fp.eq (a b : Fp) : Bool := a == b

/-- R162. -/
def Fp.isZero (a : Fp) : Bool := Fp.eq a Fp.zero

/-- R162. -/
def Fp.isOne (a : Fp) : Bool := Fp.eq a Fp.one

/-- R163. -/
def Fp.isSquare (a : Fp) : Bool := Fp.isZero a || Fp.isOne (Fp.pow a eulerExp)

/-- R166. -/
def Fp.big (y : Fp) : Bool := Config.p < 2 * y.val

end Sys2Proof
end

