-- ==== Sys2Proof/Machine/Fp2.lean ====
section
/-! DEFINITION. The quadratic-extension functions, spec/42_fp2.md section 1 (R200 to R215). -/

namespace Sys2Proof

/-- `ZERO_Fp2` (R200). -/
def Fp2.zero : Fp2 := ⟨Fp.zero, Fp.zero⟩

/-- `ONE_Fp2` (R200). -/
def Fp2.one : Fp2 := ⟨Fp.one, Fp.zero⟩

/-- `emb_Fp2(n)` (R14, R215). -/
def Fp2.emb (n : Fp) : Fp2 := ⟨n, Fp.zero⟩

/-- R201. -/
def Fp2.add (a b : Fp2) : Fp2 := ⟨Fp.add a.c0 b.c0, Fp.add a.c1 b.c1⟩

/-- R201. -/
def Fp2.sub (a b : Fp2) : Fp2 := ⟨Fp.sub a.c0 b.c0, Fp.sub a.c1 b.c1⟩

/-- R201. -/
def Fp2.neg (a : Fp2) : Fp2 := ⟨Fp.neg a.c0, Fp.neg a.c1⟩

/-- R202: `u² = −1` substituted. -/
def Fp2.mul (a b : Fp2) : Fp2 :=
  ⟨Fp.sub (Fp.mul a.c0 b.c0) (Fp.mul a.c1 b.c1), Fp.add (Fp.mul a.c0 b.c1) (Fp.mul a.c1 b.c0)⟩

/-- R203. -/
def Fp2.sqr (a : Fp2) : Fp2 := Fp2.mul a a

/-- R203. -/
def Fp2.cube (a : Fp2) : Fp2 := Fp2.mul (Fp2.mul a a) a

/-- R204. -/
def Fp2.scale (a : Fp2) (n : Nat) : Fp2 := ⟨Fp.scale a.c0 n, Fp.scale a.c1 n⟩

/-- R205. -/
def Fp2.pow (a : Fp2) (e : Nat) : Fp2 := powBy Fp2.mul Fp2.one a e

/-- The norm `c0² + c1²` of R206 and R211. -/
def Fp2.norm (a : Fp2) : Fp := Fp.add (Fp.sqr a.c0) (Fp.sqr a.c1)

/-- R206: none where the base inversion raises `INV_ZERO`. -/
def Fp2.inv (a : Fp2) : Option Fp2 :=
  (Fp.inv (Fp2.norm a)).map fun di => ⟨Fp.mul a.c0 di, Fp.mul (Fp.neg a.c1) di⟩

/-- R207: none where the rule raises `INV_ZERO`. -/
def Fp2.div (a b : Fp2) : Option Fp2 := (Fp2.inv b).map (Fp2.mul a)

/-- R207. -/
def Fp2.halve (a : Fp2) : Fp2 := ⟨Fp.halve a.c0, Fp.halve a.c1⟩

/-- R208. -/
def Fp2.conj (a : Fp2) : Fp2 := ⟨a.c0, Fp.neg a.c1⟩

/-- R208: `a^(p^n)`. -/
def Fp2.frob (a : Fp2) (n : Nat) : Fp2 := if n % 2 = 0 then a else Fp2.conj a

/-- R209. -/
def Fp2.mulxi (a : Fp2) : Fp2 := ⟨Fp.sub a.c0 a.c1, Fp.add a.c0 a.c1⟩

/-- R465: multiplication by an Fp value. -/
def Fp2.scaleFp (a : Fp2) (s : Fp) : Fp2 := ⟨Fp.mul a.c0 s, Fp.mul a.c1 s⟩

/-- R210. -/
def Fp2.eq (a b : Fp2) : Bool := Fp.eq a.c0 b.c0 && Fp.eq a.c1 b.c1

/-- R210. -/
def Fp2.isZero (a : Fp2) : Bool := Fp2.eq a Fp2.zero

/-- R210. -/
def Fp2.isOne (a : Fp2) : Bool := Fp2.eq a Fp2.one

/-- R211. -/
def Fp2.isSquare (a : Fp2) : Bool := Fp.isSquare (Fp2.norm a)

/-- R214: the imaginary part decides unless it is zero. -/
def Fp2.big (y : Fp2) : Bool := if Fp.isZero y.c1 then Fp.big y.c0 else Fp.big y.c1

/-- The root of the code of R213 before it is verified and its sign chosen; none where a step has no value. -/
def Fp2.sqrtCandidate (a : Fp2) : Option Fp2 :=
  if Fp.isZero a.c1 then
    if Fp.isSquare a.c0 then (Fp.sqrt a.c0).map fun r => ⟨r, Fp.zero⟩
    else (Fp.sqrt (Fp.neg a.c0)).map fun r => ⟨Fp.zero, r⟩
  else if Fp.isSquare (Fp2.norm a) then
    (Fp.sqrt (Fp2.norm a)).bind fun al =>
      let de := if Fp.isSquare (Fp.halve (Fp.add a.c0 al)) then Fp.halve (Fp.add a.c0 al)
                else Fp.halve (Fp.sub a.c0 al)
      (Fp.sqrt de).bind fun x0 => (Fp.div a.c1 (Fp.scale x0 2)).map fun x1 => ⟨x0, x1⟩
  else none

/-- R213: the root that is not big; none where the rule raises `NO_SQRT`. -/
def Fp2.sqrt (a : Fp2) : Option Fp2 :=
  if Fp2.isZero a then some Fp2.zero
  else (Fp2.sqrtCandidate a).bind fun r =>
    if Fp2.eq (Fp2.sqr r) a then some (if Fp2.big r then Fp2.neg r else r) else none

end Sys2Proof
end

