-- ==== Sys2Proof/Machine/Fp6.lean ====
section
/-! DEFINITION. The cubic-extension functions, spec/43_fp6.md section 1 (R250 to R261), and the Fp6 Frobenius
(spec/44_fp12.md R315). -/

namespace Sys2Proof

/-- `ZERO_Fp6` (R250). -/
def Fp6.zero : Fp6 := ⟨Fp2.zero, Fp2.zero, Fp2.zero⟩

/-- `ONE_Fp6` (R250). -/
def Fp6.one : Fp6 := ⟨Fp2.one, Fp2.zero, Fp2.zero⟩

/-- `emb_Fp6(n)` (R14, R261). -/
def Fp6.emb (n : Fp) : Fp6 := ⟨Fp2.emb n, Fp2.zero, Fp2.zero⟩

/-- R251. -/
def Fp6.add (a b : Fp6) : Fp6 := ⟨Fp2.add a.c0 b.c0, Fp2.add a.c1 b.c1, Fp2.add a.c2 b.c2⟩

/-- R251. -/
def Fp6.sub (a b : Fp6) : Fp6 := ⟨Fp2.sub a.c0 b.c0, Fp2.sub a.c1 b.c1, Fp2.sub a.c2 b.c2⟩

/-- R251. -/
def Fp6.neg (a : Fp6) : Fp6 := ⟨Fp2.neg a.c0, Fp2.neg a.c1, Fp2.neg a.c2⟩

/-- R252: `v³ = ξ` substituted. -/
def Fp6.mul (a b : Fp6) : Fp6 :=
  ⟨Fp2.add (Fp2.mul a.c0 b.c0) (Fp2.mulxi (Fp2.add (Fp2.mul a.c1 b.c2) (Fp2.mul a.c2 b.c1))),
   Fp2.add (Fp2.add (Fp2.mul a.c0 b.c1) (Fp2.mul a.c1 b.c0)) (Fp2.mulxi (Fp2.mul a.c2 b.c2)),
   Fp2.add (Fp2.add (Fp2.mul a.c0 b.c2) (Fp2.mul a.c1 b.c1)) (Fp2.mul a.c2 b.c0)⟩

/-- R253. -/
def Fp6.sqr (a : Fp6) : Fp6 := Fp6.mul a a

/-- R253. -/
def Fp6.cube (a : Fp6) : Fp6 := Fp6.mul (Fp6.mul a a) a

/-- R254. -/
def Fp6.scale (a : Fp6) (n : Nat) : Fp6 := ⟨Fp2.scale a.c0 n, Fp2.scale a.c1 n, Fp2.scale a.c2 n⟩

/-- R255. -/
def Fp6.pow (a : Fp6) (e : Nat) : Fp6 := powBy Fp6.mul Fp6.one a e

/-- `t0` of R256. -/
def Fp6.invT0 (a : Fp6) : Fp2 := Fp2.sub (Fp2.sqr a.c0) (Fp2.mulxi (Fp2.mul a.c1 a.c2))

/-- `t1` of R256. -/
def Fp6.invT1 (a : Fp6) : Fp2 := Fp2.sub (Fp2.mulxi (Fp2.sqr a.c2)) (Fp2.mul a.c0 a.c1)

/-- `t2` of R256. -/
def Fp6.invT2 (a : Fp6) : Fp2 := Fp2.sub (Fp2.sqr a.c1) (Fp2.mul a.c0 a.c2)

/-- `d` of R256, the norm down to Fp2. -/
def Fp6.norm (a : Fp6) : Fp2 :=
  Fp2.add (Fp2.mul a.c0 (Fp6.invT0 a))
    (Fp2.mulxi (Fp2.add (Fp2.mul a.c2 (Fp6.invT1 a)) (Fp2.mul a.c1 (Fp6.invT2 a))))

/-- R256: none where the base inversion raises `INV_ZERO`. -/
def Fp6.inv (a : Fp6) : Option Fp6 :=
  (Fp2.inv (Fp6.norm a)).map fun di =>
    ⟨Fp2.mul (Fp6.invT0 a) di, Fp2.mul (Fp6.invT1 a) di, Fp2.mul (Fp6.invT2 a) di⟩

/-- R257: none where the rule raises `INV_ZERO`. -/
def Fp6.div (a b : Fp6) : Option Fp6 := (Fp6.inv b).map (Fp6.mul a)

/-- R257. -/
def Fp6.halve (a : Fp6) : Fp6 := ⟨Fp2.halve a.c0, Fp2.halve a.c1, Fp2.halve a.c2⟩

/-- R258: multiplication by `v`. -/
def Fp6.mulv (a : Fp6) : Fp6 := ⟨Fp2.mulxi a.c2, a.c0, a.c1⟩

/-- R259: multiplication by an Fp2 value. -/
def Fp6.mulFp2 (a : Fp6) (k : Fp2) : Fp6 := ⟨Fp2.mul a.c0 k, Fp2.mul a.c1 k, Fp2.mul a.c2 k⟩

/-- R260. -/
def Fp6.eq (a b : Fp6) : Bool := Fp2.eq a.c0 b.c0 && Fp2.eq a.c1 b.c1 && Fp2.eq a.c2 b.c2

/-- R260. -/
def Fp6.isZero (a : Fp6) : Bool := Fp6.eq a Fp6.zero

/-- R260. -/
def Fp6.isOne (a : Fp6) : Bool := Fp6.eq a Fp6.one

/-- R315: `a^(p^m)` for `m` in `0..5`. -/
def Fp6.frob (a : Fp6) (m : Nat) : Fp6 :=
  ⟨Fp2.frob a.c0 m, Fp2.mul (Fp2.frob a.c1 m) (frobG6_1 m), Fp2.mul (Fp2.frob a.c2 m) (frobG6_2 m)⟩

end Sys2Proof
end

