-- ==== Sys2Proof/Machine/Fp12.lean ====
section
/-! DEFINITION. The functions of the top of the tower, spec/44_fp12.md section 1 (R300 to R320). -/

namespace Sys2Proof

/-- `ZERO_Fp12` (R300). -/
def Fp12.zero : Fp12 := ⟨Fp6.zero, Fp6.zero⟩

/-- `ONE_Fp12` (R300). -/
def Fp12.one : Fp12 := ⟨Fp6.one, Fp6.zero⟩

/-- `emb_Fp12(n)` (R14, R310). -/
def Fp12.emb (n : Fp) : Fp12 := ⟨Fp6.emb n, Fp6.zero⟩

/-- R301. -/
def Fp12.add (a b : Fp12) : Fp12 := ⟨Fp6.add a.c0 b.c0, Fp6.add a.c1 b.c1⟩

/-- R301. -/
def Fp12.sub (a b : Fp12) : Fp12 := ⟨Fp6.sub a.c0 b.c0, Fp6.sub a.c1 b.c1⟩

/-- R301. -/
def Fp12.neg (a : Fp12) : Fp12 := ⟨Fp6.neg a.c0, Fp6.neg a.c1⟩

/-- R302: `w² = v` substituted. -/
def Fp12.mul (a b : Fp12) : Fp12 :=
  ⟨Fp6.add (Fp6.mul a.c0 b.c0) (Fp6.mulv (Fp6.mul a.c1 b.c1)),
   Fp6.add (Fp6.mul a.c0 b.c1) (Fp6.mul a.c1 b.c0)⟩

/-- R303. -/
def Fp12.sqr (a : Fp12) : Fp12 := Fp12.mul a a

/-- R303. -/
def Fp12.cube (a : Fp12) : Fp12 := Fp12.mul (Fp12.mul a a) a

/-- R304. -/
def Fp12.scale (a : Fp12) (n : Nat) : Fp12 := ⟨Fp6.scale a.c0 n, Fp6.scale a.c1 n⟩

/-- R305. -/
def Fp12.pow (a : Fp12) (e : Nat) : Fp12 := powBy Fp12.mul Fp12.one a e

/-- `d` of R306, the norm down to Fp6. -/
def Fp12.norm (a : Fp12) : Fp6 := Fp6.sub (Fp6.sqr a.c0) (Fp6.mulv (Fp6.sqr a.c1))

/-- R306: none where the base inversion raises `INV_ZERO`. -/
def Fp12.inv (a : Fp12) : Option Fp12 :=
  (Fp6.inv (Fp12.norm a)).map fun di => ⟨Fp6.mul a.c0 di, Fp6.neg (Fp6.mul a.c1 di)⟩

/-- R307: none where the rule raises `INV_ZERO`. -/
def Fp12.div (a b : Fp12) : Option Fp12 := (Fp12.inv b).map (Fp12.mul a)

/-- R307. -/
def Fp12.halve (a : Fp12) : Fp12 := ⟨Fp6.halve a.c0, Fp6.halve a.c1⟩

/-- R308. -/
def Fp12.eq (a b : Fp12) : Bool := Fp6.eq a.c0 b.c0 && Fp6.eq a.c1 b.c1

/-- R308. -/
def Fp12.isZero (a : Fp12) : Bool := Fp12.eq a Fp12.zero

/-- R308. -/
def Fp12.isOne (a : Fp12) : Bool := Fp12.eq a Fp12.one

/-- R309. -/
def Fp12.conj (a : Fp12) : Fp12 := ⟨a.c0, Fp6.neg a.c1⟩

/-- R317: the Frobenius endomorphism `a^(p^n)`, of period 12 (D32). -/
def Fp12.powp (a : Fp12) (n : Nat) : Fp12 :=
  ⟨Fp6.frob a.c0 (n % 6), Fp6.mulFp2 (Fp6.frob a.c1 (n % 6)) (frobG12 (n % 12))⟩

/-- Membership of the cyclotomic subgroup, by the test of R318 that needs no big exponent (log 4). -/
def Fp12.inCyclotomic (a : Fp12) : Bool :=
  !Fp12.isZero a && Fp12.eq (Fp12.mul (Fp12.powp a 4) a) (Fp12.powp a 2)

/-- An unspecified Fp12 value: draw `n`, a free draw over all of Fp12 (U1, R319, log 4). -/
def Fp12.unspecified (n : Nat) : Fp12 :=
  let c (i : Nat) : Fp2 := mkFp2 (Config.cycDraw n (2 * i)) (Config.cycDraw n (2 * i + 1))
  ⟨⟨c 0, c 1, c 2⟩, ⟨c 3, c 4, c 5⟩⟩

end Sys2Proof
end

