-- ==== Sys2Proof/Machine/State.lean ====
section
/-! DEFINITION. The architectural state (spec/10_state.md), the causes of a fault (spec/60_exceptions.md R522), the
host's actions (spec/10_state.md R21, R36 to R43) and the state after hard reset (spec/10_state.md R46). -/

namespace Sys2Proof.Machine

/-- `STATE`, the run state (R34). -/
inductive RunState where
  | idle
  | running
  | halted
  | faulted
  deriving DecidableEq, Repr

/-- The causes of a fault, codes 1 to 14 in this order (R522). -/
inductive Cause where
  | illegal
  | ifetch
  | dmemRange
  | uninitReg
  | fpRange
  | invZero
  | noSqrt
  | fmtLength
  | fmtHeader
  | decXrange
  | decNotOnCurve
  | pairZero
  | pairInvalid
  | softTrap
  deriving DecidableEq, Repr

/-- What `raise CAUSE(info)` is given (R521). -/
structure Trap where
  cause : Cause
  info : Nat
  deriving DecidableEq, Repr

/-- A value register: its valid bit and its contents (R32). -/
structure VReg (α : Type) where
  valid : Bool
  val : α
  deriving DecidableEq, Repr

/-- What the host does to BMAP, one atomic action each (R21, D19, R62). Host reads change nothing and are functions of
the state (Machine/HostPort.lean). `turn` is the model's: the host lets the sequencer take its next step (log 6). -/
inductive HostAction where
  /-- The sequencer's turn. -/
  | turn
  /-- The reset input `rst` is asserted and released (R560). -/
  | hardReset
  /-- A write of a host register, by its byte offset (R35 to R42). -/
  | writeReg (offset : Nat) (value : BitVec 32)
  /-- A write of a whole word through the IMEM window (R62). -/
  | writeImem (index : Nat) (word : BitVec 32)
  /-- A write of consecutive bytes through the DMEM window (R62). -/
  | writeDmem (address : Nat) (bytes : List (BitVec 8))
  deriving DecidableEq, Repr

/-- The state of BMAP. The last four fields are the model's own (INVENTORY.md, State). -/
structure State where
  /-- R22 -/
  pc : BitVec 16
  /-- The test flag `T`, R23. -/
  tflag : Bool
  /-- `a0` to `a7`, R24; `a0` is hardwired by the operations that read and write. -/
  a : Vector (BitVec 16) 8
  /-- R25 -/
  k : Vector (VReg (BitVec 384)) 8
  /-- R26 -/
  f : Vector (VReg Fp) 16
  /-- R27 -/
  q : Vector (VReg Fp2) 16
  /-- R28 -/
  s : Vector (VReg Fp6) 8
  /-- R29 -/
  t : Vector (VReg Fp12) 8
  /-- R30 -/
  g : Vector (VReg G1Point) 8
  /-- R31 -/
  h : Vector (VReg G2Point) 8
  /-- `STATE`, R34. -/
  run : RunState
  /-- `FAULT_CAUSE`, R39. -/
  faultCause : BitVec 8
  /-- `FAULT_PC`, R40. -/
  faultPc : BitVec 16
  /-- `FAULT_INFO`, R41. -/
  faultInfo : BitVec 32
  /-- `IRQ_EN.HALT_IE`, R42. -/
  haltIe : Bool
  /-- `IRQ_EN.FAULT_IE`, R42. -/
  faultIe : Bool
  /-- IMEM (R60): the words written since hard reset, by rising index (log 3). -/
  imem : List (Nat × BitVec 32)
  /-- DMEM (R61): the bytes written since hard reset, by rising address (log 2). -/
  dmem : List Host.Cell
  /-- The sizes `IMEM_WORDS` and `DMEM_BYTES` (R5, log 1). -/
  sizes : Config.Sizes
  /-- The host's pending actions, first first (log 6). -/
  host : List HostAction
  /-- How many unspecified results have been drawn (U1, log 4). -/
  draws : Nat
  /-- How many hard resets have happened; selects the power-on contents of the memories (U2, U3, log 2). -/
  epoch : Nat
  deriving DecidableEq, Repr

/-- Why `step` stops. A fault of BMAP itself is no stop: it is a next state (R521). These three are host accesses to
addresses BMAP does not have; all are raised by the host port only, and all are safe: the model stops where the
platform, which the spec does not describe, decides (log 8). -/
inductive Fault where
  /-- Raised by a host write to a register offset that is none of the eight (R35 to R42). Safe. -/
  | hostRegister (offset : Nat)
  /-- Raised by a host write to an IMEM window index at or above `IMEM_WORDS` (R60, R62). Safe. -/
  | imemWindow (index : Nat)
  /-- Raised by a host write to the DMEM window that ends beyond `DMEM_BYTES` (R61, R62). Safe. -/
  | dmemWindow (address : Nat)
  deriving DecidableEq, Repr

/-- Why an instruction has no meaning. -/
inductive Refusal where
  /-- Raised by an arm of `exec` whose instruction is not modelled. Safe. No arm raises it. -/
  | notModelled (mnemonic : String)
  deriving DecidableEq, Repr

/-- A value register as reset leaves it: not valid, its contents unspecified and unreadable (R32, R46, log 5). -/
def resetReg {α : Type} (contents : α) : VReg α := { valid := false, val := contents }

/-- The state after hard reset of a BMAP with these sizes (R46, R560). -/
def State.resetWith (z : Config.Sizes) : State :=
  { pc := 0, tflag := false, a := Vector.replicate 8 0
    k := Vector.replicate 8 (resetReg 0)
    f := Vector.replicate 16 (resetReg Fp.zero)
    q := Vector.replicate 16 (resetReg Fp2.zero)
    s := Vector.replicate 8 (resetReg Fp6.zero)
    t := Vector.replicate 8 (resetReg Fp12.zero)
    g := Vector.replicate 8 (resetReg ⟨Fp.zero, Fp.zero, Fp.zero⟩)
    h := Vector.replicate 8 (resetReg ⟨Fp2.zero, Fp2.zero, Fp2.zero⟩)
    run := .idle, faultCause := 0, faultPc := 0, faultInfo := 0, haltIe := false, faultIe := false
    imem := [], dmem := [], sizes := z, host := [], draws := 0, epoch := 0 }

/-- The machine right after hard reset, with the default sizes of R5 (R46, log 1). -/
def State.reset : State := State.resetWith Config.defaultSizes

end Sys2Proof.Machine
end

