-- ==== Sys2Proof/Syntax.lean ====
section
/-! DEFINITION. The instructions of BMAP-1.0, one constructor per row of spec/30_encoding.md R106, operands in the
order of the fields A, B, C, D and then the immediate (R104). A register operand's type is its file (R95): files of
16 registers are `f` and `q`, files of 8 are `a`, `k`, `s`, `t`, `g`, `h`. Immediates are the instruction's bits;
`off` and the immediate of `A.ADDI` are read as signed by the operation (R96). -/

namespace Sys2Proof

/-- An address register number, `a0` to `a7` (R24). -/
abbrev AReg : Type := Fin 8
/-- An integer register number (R25). -/
abbrev KReg : Type := Fin 8
/-- An Fp register number (R26). -/
abbrev FReg : Type := Fin 16
/-- An Fp2 register number (R27). -/
abbrev QReg : Type := Fin 16
/-- An Fp6 register number (R28). -/
abbrev SReg : Type := Fin 8
/-- An Fp12 register number (R29). -/
abbrev TReg : Type := Fin 8
/-- A G1 point register number (R30). -/
abbrev GReg : Type := Fin 8
/-- A G2 point register number (R31). -/
abbrev HReg : Type := Fin 8

/-- The 137 instructions (R106). -/
inductive Instr where
  -- sequencer and address registers (spec/40_control.md)
  | nop                                                    -- NOP, R123
  | halt                                                   -- HALT, R124
  | trap (imm : BitVec 16)                                 -- TRAP, R125
  | j (off : BitVec 16)                                    -- J, R126
  | bt (off : BitVec 16)                                   -- BT, R127
  | bf (off : BitVec 16)                                   -- BF, R128
  | banz (a : AReg) (off : BitVec 16)                      -- BANZ, R129
  | jal (a : AReg) (off : BitVec 16)                       -- JAL, R130
  | jr (a : AReg)                                          -- JR, R131
  | aLi (a : AReg) (imm : BitVec 16)                       -- A.LI, R132
  | aAddi (a b : AReg) (imm : BitVec 16)                   -- A.ADDI, R133
  -- integer registers (spec/40_control.md)
  | kLd (a : KReg) (b : AReg) (imm : BitVec 16)            -- K.LD, R135
  | kSt (a : KReg) (b : AReg) (imm : BitVec 16)            -- K.ST, R136
  | kLi (a : KReg) (imm : BitVec 16)                       -- K.LI, R137
  | kMov (a b : KReg)                                      -- K.MOV, R138
  | kModr (a b : KReg)                                     -- K.MODR, R139
  -- Fp (spec/41_fp.md)
  | fpLd (a : FReg) (b : AReg) (imm : BitVec 16)           -- FP.LD, R170
  | fpSt (a : FReg) (b : AReg) (imm : BitVec 16)           -- FP.ST, R171
  | fpLi (a : FReg) (imm : BitVec 16)                      -- FP.LI, R172
  | fpMov (a b : FReg)                                     -- FP.MOV, R173
  | fpAdd (a b c : FReg)                                   -- FP.ADD, R174
  | fpSub (a b c : FReg)                                   -- FP.SUB, R175
  | fpNeg (a b : FReg)                                     -- FP.NEG, R176
  | fpMul (a b c : FReg)                                   -- FP.MUL, R177
  | fpSqr (a b : FReg)                                     -- FP.SQR, R178
  | fpCube (a b : FReg)                                    -- FP.CUBE, R179
  | fpHalve (a b : FReg)                                   -- FP.HALVE, R180
  | fpScale (a b : FReg) (c : KReg)                        -- FP.SCALE, R181
  | fpPow (a b : FReg) (c : KReg)                          -- FP.POW, R182
  | fpInv (a b : FReg)                                     -- FP.INV, R183
  | fpDiv (a b c : FReg)                                   -- FP.DIV, R184
  | fpSqrt (a b : FReg)                                    -- FP.SQRT, R185
  | fpEq (b c : FReg)                                      -- FP.EQ, R186
  | fpIszero (b : FReg)                                    -- FP.ISZERO, R187
  | fpIsone (b : FReg)                                     -- FP.ISONE, R188
  -- Fp2 (spec/42_fp2.md)
  | fp2Ld (a : QReg) (b : AReg) (imm : BitVec 16)          -- FP2.LD, R220
  | fp2St (a : QReg) (b : AReg) (imm : BitVec 16)          -- FP2.ST, R221
  | fp2Li (a : QReg) (imm : BitVec 16)                     -- FP2.LI, R222
  | fp2Mov (a b : QReg)                                    -- FP2.MOV, R223
  | fp2Add (a b c : QReg)                                  -- FP2.ADD, R224
  | fp2Sub (a b c : QReg)                                  -- FP2.SUB, R225
  | fp2Neg (a b : QReg)                                    -- FP2.NEG, R226
  | fp2Mul (a b c : QReg)                                  -- FP2.MUL, R227
  | fp2Sqr (a b : QReg)                                    -- FP2.SQR, R228
  | fp2Cube (a b : QReg)                                   -- FP2.CUBE, R229
  | fp2Halve (a b : QReg)                                  -- FP2.HALVE, R230
  | fp2Scale (a b : QReg) (c : KReg)                       -- FP2.SCALE, R231
  | fp2Pow (a b : QReg) (c : KReg)                         -- FP2.POW, R232
  | fp2Inv (a b : QReg)                                    -- FP2.INV, R233
  | fp2Div (a b c : QReg)                                  -- FP2.DIV, R234
  | fp2Sqrt (a b : QReg)                                   -- FP2.SQRT, R235
  | fp2Eq (b c : QReg)                                     -- FP2.EQ, R236
  | fp2Iszero (b : QReg)                                   -- FP2.ISZERO, R237
  | fp2Isone (b : QReg)                                    -- FP2.ISONE, R238
  | fp2Pack (a : QReg) (b c : FReg)                        -- FP2.PACK, R239
  | fp2Get (a : FReg) (b : QReg) (fn : BitVec 8)           -- FP2.GET, R240
  -- Fp6 (spec/43_fp6.md)
  | fp6Ld (a : SReg) (b : AReg) (imm : BitVec 16)          -- FP6.LD, R270
  | fp6St (a : SReg) (b : AReg) (imm : BitVec 16)          -- FP6.ST, R271
  | fp6Li (a : SReg) (imm : BitVec 16)                     -- FP6.LI, R272
  | fp6Mov (a b : SReg)                                    -- FP6.MOV, R273
  | fp6Add (a b c : SReg)                                  -- FP6.ADD, R274
  | fp6Sub (a b c : SReg)                                  -- FP6.SUB, R275
  | fp6Neg (a b : SReg)                                    -- FP6.NEG, R276
  | fp6Mul (a b c : SReg)                                  -- FP6.MUL, R277
  | fp6Sqr (a b : SReg)                                    -- FP6.SQR, R278
  | fp6Cube (a b : SReg)                                   -- FP6.CUBE, R279
  | fp6Halve (a b : SReg)                                  -- FP6.HALVE, R280
  | fp6Scale (a b : SReg) (c : KReg)                       -- FP6.SCALE, R281
  | fp6Pow (a b : SReg) (c : KReg)                         -- FP6.POW, R282
  | fp6Inv (a b : SReg)                                    -- FP6.INV, R283
  | fp6Div (a b c : SReg)                                  -- FP6.DIV, R284
  | fp6Eq (b c : SReg)                                     -- FP6.EQ, R285
  | fp6Iszero (b : SReg)                                   -- FP6.ISZERO, R286
  | fp6Isone (b : SReg)                                    -- FP6.ISONE, R287
  | fp6Pack (a : SReg) (b c d : QReg)                      -- FP6.PACK, R288
  | fp6Get (a : QReg) (b : SReg) (fn : BitVec 8)           -- FP6.GET, R289
  -- Fp12 (spec/44_fp12.md)
  | fp12Ld (a : TReg) (b : AReg) (imm : BitVec 16)         -- FP12.LD, R330
  | fp12St (a : TReg) (b : AReg) (imm : BitVec 16)         -- FP12.ST, R331
  | fp12Li (a : TReg) (imm : BitVec 16)                    -- FP12.LI, R332
  | fp12Mov (a b : TReg)                                   -- FP12.MOV, R333
  | fp12Add (a b c : TReg)                                 -- FP12.ADD, R334
  | fp12Sub (a b c : TReg)                                 -- FP12.SUB, R335
  | fp12Neg (a b : TReg)                                   -- FP12.NEG, R336
  | fp12Mul (a b c : TReg)                                 -- FP12.MUL, R337
  | fp12Sqr (a b : TReg)                                   -- FP12.SQR, R338
  | fp12Cube (a b : TReg)                                  -- FP12.CUBE, R339
  | fp12Halve (a b : TReg)                                 -- FP12.HALVE, R340
  | fp12Scale (a b : TReg) (c : KReg)                      -- FP12.SCALE, R341
  | fp12Pow (a b : TReg) (c : KReg)                        -- FP12.POW, R342
  | fp12Inv (a b : TReg)                                   -- FP12.INV, R343
  | fp12Div (a b c : TReg)                                 -- FP12.DIV, R344
  | fp12Eq (b c : TReg)                                    -- FP12.EQ, R345
  | fp12Iszero (b : TReg)                                  -- FP12.ISZERO, R346
  | fp12Isone (b : TReg)                                   -- FP12.ISONE, R347
  | fp12Pack (a : TReg) (b c : SReg)                       -- FP12.PACK, R348
  | fp12Get (a : SReg) (b : TReg) (fn : BitVec 8)          -- FP12.GET, R349
  | fp12Powp (a b : TReg) (fn : BitVec 8)                  -- FP12.POWP, R350
  | fp12Conj (a b : TReg)                                  -- FP12.CONJ, R351
  | fp12Cycsqr (a b : TReg)                                -- FP12.CYCSQR, R352
  | fp12Cycpow (a b : TReg) (c : KReg)                     -- FP12.CYCPOW, R353
  -- G1 (spec/45_g1.md, spec/48_codec.md)
  | g1Dec (a : GReg) (b c : AReg) (imm : BitVec 12)        -- G1.DEC, R500
  | g1Enc (a : GReg) (b : AReg) (imm : BitVec 16)          -- G1.ENC, R501
  | g1Zero (a : GReg)                                      -- G1.ZERO, R385
  | g1Mov (a b : GReg)                                     -- G1.MOV, R386
  | g1Add (a b c : GReg)                                   -- G1.ADD, R387
  | g1Dbl (a b : GReg)                                     -- G1.DBL, R388
  | g1Neg (a b : GReg)                                     -- G1.NEG, R389
  | g1Scale (a b : GReg) (c : KReg)                        -- G1.SCALE, R390
  | g1Clrcof (a b : GReg)                                  -- G1.CLRCOF, R391
  | g1Fromaff (a : GReg) (b c : FReg)                      -- G1.FROMAFF, R392
  | g1Toaff (a : FReg) (b : GReg) (c : FReg)               -- G1.TOAFF, R393
  | g1Pack (a : GReg) (b c d : FReg)                       -- G1.PACK, R394
  | g1Get (a : FReg) (b : GReg) (fn : BitVec 8)            -- G1.GET, R395
  | g1Eq (b c : GReg)                                      -- G1.EQ, R396
  | g1Iszero (b : GReg)                                    -- G1.ISZERO, R397
  | g1Isvalid (b : GReg)                                   -- G1.ISVALID, R398
  -- G2 (spec/46_g2.md, spec/48_codec.md)
  | g2Dec (a : HReg) (b c : AReg) (imm : BitVec 12)        -- G2.DEC, R502
  | g2Enc (a : HReg) (b : AReg) (imm : BitVec 16)          -- G2.ENC, R503
  | g2Zero (a : HReg)                                      -- G2.ZERO, R420
  | g2Mov (a b : HReg)                                     -- G2.MOV, R421
  | g2Add (a b c : HReg)                                   -- G2.ADD, R422
  | g2Dbl (a b : HReg)                                     -- G2.DBL, R423
  | g2Neg (a b : HReg)                                     -- G2.NEG, R424
  | g2Scale (a b : HReg) (c : KReg)                        -- G2.SCALE, R425
  | g2Clrcof (a b : HReg)                                  -- G2.CLRCOF, R426
  | g2Fromaff (a : HReg) (b c : QReg)                      -- G2.FROMAFF, R427
  | g2Toaff (a : QReg) (b : HReg) (c : QReg)               -- G2.TOAFF, R428
  | g2Pack (a : HReg) (b c d : QReg)                       -- G2.PACK, R429
  | g2Get (a : QReg) (b : HReg) (fn : BitVec 8)            -- G2.GET, R430
  | g2Eq (b c : HReg)                                      -- G2.EQ, R431
  | g2Iszero (b : HReg)                                    -- G2.ISZERO, R432
  | g2Isvalid (b : HReg)                                   -- G2.ISVALID, R433
  | g2Psi (a b : HReg)                                     -- G2.PSI, R434
  | g2Psi2 (a b : HReg)                                    -- G2.PSI2, R435
  -- pairing (spec/47_pairing.md)
  | miller (a : TReg) (b : GReg) (c : HReg)                -- MILLER, R475
  | finalExp (a b : TReg)                                  -- FINALEXP, R476
  | finalVerify (b : TReg)                                 -- FINALVERIFY, R477
  deriving DecidableEq, Repr

end Sys2Proof
end

