-- ==== Sys2Proof/Machine/Ops.lean ====
section
/-! DEFINITION. The named operations over registers and memory, and the fault mechanism: register access
(spec/10_state.md R24 to R33), DMEM and IMEM (spec/20_memory.md R60 to R69), raising a fault and returning from one
(spec/60_exceptions.md R521, R522, R536), and the ways an instruction ends (spec/40_control.md R120 to R122). -/

namespace Sys2Proof.Machine

/-! ### Memories -/

/-- The canonical form of a memory: the written cells by strictly rising address. A cell that is not listed has not
been written since hard reset and reads as a free value, so no listed cell is redundant (log 2, log 3). -/
abbrev Memory.wf {w : Nat} (m : List (Nat × BitVec w)) : Prop := m.Pairwise fun x y => x.1 < y.1

/-- What has been written at an address, if anything. -/
def Memory.lookup {w : Nat} : List (Nat × BitVec w) → Nat → Option (BitVec w)
  | [], _ => none
  | c :: m, a => if c.1 = a then some c.2 else Memory.lookup m a

/-- The values `vs` as cells at consecutive addresses from `a`. -/
def Memory.cells {w : Nat} : Nat → List (BitVec w) → List (Nat × BitVec w)
  | _, [] => []
  | a, v :: vs => (a, v) :: Memory.cells (a + 1) vs

/-- The memory after `vs` are written at consecutive addresses from `a`. -/
def Memory.store {w : Nat} (m : List (Nat × BitVec w)) (a : Nat) (vs : List (BitVec w)) : List (Nat × BitVec w) :=
  m.filter (fun c => decide (c.1 < a)) ++ Memory.cells a vs
    ++ m.filter (fun c => decide (a + vs.length ≤ c.1))

/-- `DMEM[a]`: an unwritten byte has some fixed value, a free one (R61, U2). -/
def State.dmemByte (s : State) (a : Nat) : BitVec 8 := (Memory.lookup s.dmem a).getD (Config.dmemPowerOn s.epoch a)

/-- `IMEM[i]`: an unwritten word has some fixed value, a free one (R60, U3). -/
def State.imemWord (s : State) (i : Nat) : BitVec 32 := (Memory.lookup s.imem i).getD (Config.imemPowerOn s.epoch i)

/-- DMEM with `bytes` stored from address `a` up (R69). -/
def State.storeDmem (s : State) (a : Nat) (bytes : List (BitVec 8)) : State :=
  { s with dmem := Memory.store s.dmem a bytes }

/-- IMEM with one word stored (R62). -/
def State.storeImem (s : State) (i : Nat) (w : BitVec 32) : State := { s with imem := Memory.store s.imem i [w] }

/-- `MemRead(addr, n)`: the range check comes first (R68, R69). -/
def State.memRead (s : State) (addr n : Nat) : Except Trap (List (BitVec 8)) :=
  if s.sizes.dmemBytes < addr + n then .error ⟨.dmemRange, addr⟩
  else .ok ((List.range n).map fun i => s.dmemByte (addr + i))

/-- `MemWrite(addr, n, bytes)`, `n` being the number of the bytes: all or nothing (R68, R69). -/
def State.memWrite (s : State) (addr : Nat) (bytes : List (BitVec 8)) : Except Trap State :=
  if s.sizes.dmemBytes < addr + bytes.length then .error ⟨.dmemRange, addr⟩ else .ok (s.storeDmem addr bytes)

/-! ### Registers -/

/-- An address register: `a0` reads 0 (R24). -/
def State.readA (s : State) (i : AReg) : BitVec 16 := if i = 0 then 0 else s.a[i]

/-- A write of an address register: one of `a0` is discarded (R24). -/
def State.setA (s : State) (i : AReg) (v : BitVec 16) : State := if i = 0 then s else { s with a := s.a.set i v }

/-- A read of a value register of the file with this code: `UNINIT_REG(filecode·16 + index)` when it is not valid
(R32, R527). -/
def readReg {α : Type} {n : Nat} (code : Nat) (file : Vector (VReg α) n) (i : Fin n) : Except Trap α :=
  if file[i].valid then .ok file[i].val else .error ⟨.uninitReg, code * 16 + i.val⟩

/-- A write of a value register: the whole register, and its valid bit becomes 1 (R32). -/
def setReg {α : Type} {n : Nat} (file : Vector (VReg α) n) (i : Fin n) (v : α) : Vector (VReg α) n :=
  file.set i { valid := true, val := v }

/-- `k[i]`, file code 1 (R25, R527). -/
def State.readK (s : State) (i : KReg) : Except Trap (BitVec 384) := readReg 1 s.k i
/-- `f[i]`, file code 2 (R26, R527). -/
def State.readF (s : State) (i : FReg) : Except Trap Fp := readReg 2 s.f i
/-- `q[i]`, file code 3 (R27, R527). -/
def State.readQ (s : State) (i : QReg) : Except Trap Fp2 := readReg 3 s.q i
/-- `s[i]`, file code 4 (R28, R527). -/
def State.readS (s : State) (i : SReg) : Except Trap Fp6 := readReg 4 s.s i
/-- `t[i]`, file code 5 (R29, R527). -/
def State.readT (s : State) (i : TReg) : Except Trap Fp12 := readReg 5 s.t i
/-- `g[i]`, file code 6 (R30, R527). -/
def State.readG (s : State) (i : GReg) : Except Trap G1Point := readReg 6 s.g i
/-- `h[i]`, file code 7 (R31, R527). -/
def State.readH (s : State) (i : HReg) : Except Trap G2Point := readReg 7 s.h i

/-- `k[i] <- v` (R25). -/
def State.setK (s : State) (i : KReg) (v : BitVec 384) : State := { s with k := setReg s.k i v }
/-- `f[i] <- v` (R26). -/
def State.setF (s : State) (i : FReg) (v : Fp) : State := { s with f := setReg s.f i v }
/-- `q[i] <- v` (R27). -/
def State.setQ (s : State) (i : QReg) (v : Fp2) : State := { s with q := setReg s.q i v }
/-- `s[i] <- v` (R28). -/
def State.setS (s : State) (i : SReg) (v : Fp6) : State := { s with s := setReg s.s i v }
/-- `t[i] <- v` (R29). -/
def State.setT (s : State) (i : TReg) (v : Fp12) : State := { s with t := setReg s.t i v }
/-- `g[i] <- v` (R30). -/
def State.setG (s : State) (i : GReg) (v : G1Point) : State := { s with g := setReg s.g i v }
/-- `h[i] <- v` (R31). -/
def State.setH (s : State) (i : HReg) (v : G2Point) : State := { s with h := setReg s.h i v }

/-- `T <- b` (R23). -/
def State.setTest (s : State) (b : Bool) : State := { s with tflag := b }

/-- `pc <- v` (R22). -/
def State.setPc (s : State) (v : BitVec 16) : State := { s with pc := v }

/-- `pc <- (pc + 1) mod 2^16` (R22). -/
def State.advance (s : State) : State := s.setPc (s.pc + 1)

/-- `STATE <- r` (R34). -/
def State.setRun (s : State) (r : RunState) : State := { s with run := r }

/-- One more unspecified result has been drawn (U1, log 4). -/
def State.drew (s : State) : State := { s with draws := s.draws + 1 }

/-! ### Faults -/

/-- The cause codes of R522. -/
def Cause.code : Cause → BitVec 8
  | .illegal => 1
  | .ifetch => 2
  | .dmemRange => 3
  | .uninitReg => 4
  | .fpRange => 5
  | .invZero => 6
  | .noSqrt => 7
  | .fmtLength => 8
  | .fmtHeader => 9
  | .decXrange => 10
  | .decNotOnCurve => 11
  | .pairZero => 12
  | .pairInvalid => 13
  | .softTrap => 14

/-- `raise CAUSE(info)`, taking a fault, applied to the state the instruction found: cause, `pc` and information are
recorded, `STATE` becomes FAULTED, and nothing else changes; `pc` stays at the instruction (R521). -/
def State.raise (s : State) (e : Trap) : State :=
  { s with faultCause := e.cause.code, faultPc := s.pc, faultInfo := BitVec.ofNat 32 e.info, run := .faulted }

/-- Returning from a fault, the host's act: IDLE, the three fault registers zero, all else kept (R36, R536). -/
def State.clearFault (s : State) : State := { s with faultCause := 0, faultPc := 0, faultInfo := 0, run := .idle }

/-! ### How an instruction ends -/

/-- What `exec` answers. -/
abbrev Result : Type := Host.Outcome State Fault Refusal

/-- The end of an instruction begun in `s`: the state it computed, or the fault it raised, which discards every
write (R120, R521). -/
def conclude (s : State) : Except Trap State → Result
  | .ok t => .next t
  | .error e => .next (s.raise e)

/-- The end of an instruction that goes on to the next word (R121). -/
def complete (s : State) (r : Except Trap State) : Result := conclude s (r.map State.advance)

/-- The value of a partial operation, or its fault. -/
def orRaise {α : Type} (c : Cause) : Option α → Except Trap α
  | some v => .ok v
  | none => .error ⟨c, 0⟩

/-- An instruction with one source, read before the result is written (R122). -/
def compute1 {α β : Type} (s : State) (x : Except Trap α) (f : α → β) (write : β → State) : Result :=
  complete s (x.bind fun u => .ok (write (f u)))

/-- An instruction with two sources, the first one's fault first (R122, R527). -/
def compute2 {α β γ : Type} (s : State) (x : Except Trap α) (y : Except Trap β) (f : α → β → γ)
    (write : γ → State) : Result :=
  complete s (x.bind fun u => y.bind fun v => .ok (write (f u v)))

/-- An instruction with three sources (R122, R527). -/
def compute3 {α β γ δ : Type} (s : State) (x : Except Trap α) (y : Except Trap β) (z : Except Trap γ)
    (f : α → β → γ → δ) (write : δ → State) : Result :=
  complete s (x.bind fun u => y.bind fun v => z.bind fun w => .ok (write (f u v w)))

/-- An instruction with one source and an operation that has no value for some operands (R520). -/
def attempt1 {α β : Type} (s : State) (x : Except Trap α) (f : α → Option β) (c : Cause) (write : β → State) :
    Result :=
  complete s (x.bind fun u => (orRaise c (f u)).bind fun r => .ok (write r))

/-- An instruction with two sources and an operation that has no value for some operands (R520). -/
def attempt2 {α β γ : Type} (s : State) (x : Except Trap α) (y : Except Trap β) (f : α → β → Option γ)
    (c : Cause) (write : γ → State) : Result :=
  complete s (x.bind fun u => y.bind fun v => (orRaise c (f u v)).bind fun r => .ok (write r))

end Sys2Proof.Machine
end

