-- ==== Sys2Proof/Machine/Curve.lean ====
section
/-! DEFINITION. Curve arithmetic, generic over the coordinate field (spec/45_g1.md section 1, R360 to R375), its two
instances (spec/46_g2.md R410), cofactor clearing (R377, R414) and the psi endomorphism (R411 to R413). -/

namespace Sys2Proof

/-- A coordinate field with its curve constant: the `F`, `b_F` and `b3_F` of spec/45_g1.md section 1. -/
structure CurveField (F : Type) where
  zero : F
  one : F
  b : F
  b3 : F
  add : F → F → F
  sub : F → F → F
  mul : F → F → F
  neg : F → F
  inv : F → Option F
  scale : F → Nat → F
  eq : F → F → Bool

/-- `F = Fp`, `b = B1 = 4`, `3b = 12` (R9). -/
def curveFp : CurveField Fp :=
  { zero := Fp.zero, one := Fp.one, b := Fp.ofNat 4, b3 := Fp.ofNat 12, add := Fp.add, sub := Fp.sub,
    mul := Fp.mul, neg := Fp.neg, inv := Fp.inv, scale := Fp.scale, eq := Fp.eq }

/-- `F = Fp2`, `b = B2 = (4, 4)`, `3b = (12, 12)` (R9, R410). -/
def curveFp2 : CurveField Fp2 :=
  { zero := Fp2.zero, one := Fp2.one, b := mkFp2 4 4, b3 := mkFp2 12 12, add := Fp2.add, sub := Fp2.sub,
    mul := Fp2.mul, neg := Fp2.neg, inv := Fp2.inv, scale := Fp2.scale, eq := Fp2.eq }

/-- `F.sqr` (R155, R203). -/
def CurveField.sqr {F : Type} (K : CurveField F) (a : F) : F := K.mul a a

/-- `F.cube` (R155, R203). -/
def CurveField.cube {F : Type} (K : CurveField F) (a : F) : F := K.mul (K.mul a a) a

/-- `F.div` (R159, R207). -/
def CurveField.div {F : Type} (K : CurveField F) (a b : F) : Option F := (K.inv b).map (K.mul a)

/-- `Proj_F.ZERO` (R360). -/
def Proj.zero {F : Type} (K : CurveField F) : Proj F := ⟨K.zero, K.one, K.zero⟩

/-- R367: the sequence of the rule's code, every `+`, `−`, `·` being `F.add`, `F.sub`, `F.mul`. -/
def Proj.add {F : Type} (K : CurveField F) (P Q : Proj F) : Proj F :=
  let t0 := K.mul P.x Q.x
  let t1 := K.mul P.y Q.y
  let t2 := K.mul P.z Q.z
  let t3 := K.sub (K.mul (K.add P.x P.y) (K.add Q.x Q.y)) (K.add t0 t1)
  let t4 := K.sub (K.mul (K.add P.x P.z) (K.add Q.x Q.z)) (K.add t0 t2)
  let t5 := K.sub (K.mul (K.add P.y P.z) (K.add Q.y Q.z)) (K.add t1 t2)
  let c := K.mul K.b3 t2
  let m := K.sub t1 c
  let q := K.add t1 c
  let n := K.add (K.add t0 t0) t0
  let d := K.mul K.b3 t4
  ⟨K.sub (K.mul t3 m) (K.mul t5 d), K.add (K.mul m q) (K.mul n d), K.add (K.mul t5 q) (K.mul t3 n)⟩

/-- R368. -/
def Proj.dbl {F : Type} (K : CurveField F) (P : Proj F) : Proj F := Proj.add K P P

/-- R368. -/
def Proj.neg {F : Type} (K : CurveField F) (P : Proj F) : Proj F := ⟨P.x, K.neg P.y, P.z⟩

/-- R369: cross-multiplication. -/
def Proj.eq {F : Type} (K : CurveField F) (P Q : Proj F) : Bool :=
  K.eq (K.mul P.x Q.z) (K.mul Q.x P.z) && K.eq (K.mul P.y Q.z) (K.mul Q.y P.z)

/-- R370: exactly `z = F.ZERO`. -/
def Proj.isZero {F : Type} (K : CurveField F) (P : Proj F) : Bool := K.eq P.z K.zero

/-- The recursion of R371, its first argument bounding the halvings. -/
def Proj.scaleBits {F : Type} (K : CurveField F) (P : Proj F) : Nat → Nat → Proj F
  | 0, _ => Proj.zero K
  | k + 1, n =>
    if n = 0 then Proj.zero K
    else if n = 1 then P
    else
      let S := Proj.scaleBits K P k (n / 2)
      if n % 2 = 0 then Proj.add K S S else Proj.add K (Proj.add K S S) P

/-- R371: double-and-add by recursive halving; `n` is not reduced. -/
def Proj.scale {F : Type} (K : CurveField F) (P : Proj F) (n : Nat) : Proj F :=
  Proj.scaleBits K P (Nat.log2 n + 1) n

/-- R372: the homogeneous curve equation. -/
def Proj.isValid {F : Type} (K : CurveField F) (P : Proj F) : Bool :=
  K.eq (K.mul (K.sqr P.y) P.z) (K.add (K.cube P.x) (K.mul K.b (K.cube P.z)))

/-- `Aff_F.ZERO` (R361). -/
def Aff.zero {F : Type} (K : CurveField F) : F × F := (K.zero, K.one)

/-- R373. The inversion has a value wherever `z` is not zero, so its last case is never taken (DEDUCED, log 13). -/
def Proj.toAffine {F : Type} (K : CurveField F) (P : Proj F) : F × F :=
  if Proj.isZero K P then Aff.zero K
  else match K.inv P.z with
    | some zi => (K.mul P.x zi, K.mul P.y zi)
    | none => Aff.zero K

/-- R373. -/
def Proj.fromAffine {F : Type} (K : CurveField F) (x y : F) : Proj F :=
  if K.eq x K.zero && K.eq y K.one then Proj.zero K else ⟨x, y, K.one⟩

/-- R362: the literal affine equation, false for `Aff_F.ZERO`. -/
def Aff.isValid {F : Type} (K : CurveField F) (a : F × F) : Bool :=
  K.eq (K.sqr a.2) (K.add (K.cube a.1) K.b)

/-- R362. -/
def Aff.eq {F : Type} (K : CurveField F) (a b : F × F) : Bool := K.eq a.1 b.1 && K.eq a.2 b.2

/-- R362. -/
def Aff.neg {F : Type} (K : CurveField F) (a : F × F) : F × F := (a.1, K.neg a.2)

/-- R364, a reference function only; none where the slope has no value. -/
def Aff.double {F : Type} (K : CurveField F) (a : F × F) : Option (F × F) :=
  if Aff.eq K a (Aff.zero K) then some (Aff.zero K)
  else (K.div (K.scale (K.sqr a.1) 3) (K.scale a.2 2)).map fun s =>
    let x3 := K.sub (K.sqr s) (K.scale a.1 2)
    (x3, K.sub (K.mul s (K.sub a.1 x3)) a.2)

/-- R363, a reference function only; none where the slope has no value. -/
def Aff.add {F : Type} (K : CurveField F) (a b : F × F) : Option (F × F) :=
  if Aff.eq K a (Aff.zero K) then some b
  else if Aff.eq K b (Aff.zero K) then some a
  else if Aff.eq K a b then Aff.double K a
  else if Aff.eq K a (Aff.neg K b) then some (Aff.zero K)
  else (K.div (K.sub a.2 b.2) (K.sub a.1 b.1)).map fun s =>
    let x3 := K.sub (K.sub (K.sqr s) a.1) b.1
    (x3, K.sub (K.mul s (K.sub a.1 x3)) a.2)

/-- R377: scale first, then add `P` as the second operand. -/
def G1Point.clearCofactor (P : G1Point) : G1Point := Proj.add curveFp (Proj.scale curveFp P seedX) P

/-- R412. -/
def G2Point.psi (P : G2Point) : G2Point :=
  ⟨Fp2.mul psiCx (Fp2.conj P.x), Fp2.mul psiCy (Fp2.conj P.y), Fp2.conj P.z⟩

/-- R413. -/
def G2Point.psi2 (P : G2Point) : G2Point := ⟨Fp2.mul psi2Cx P.x, Fp2.neg P.y, P.z⟩

/-- `[−X]P` as R414 spells it. -/
def G2Point.scaleNegX (P : G2Point) : G2Point := Proj.neg curveFp2 (Proj.scale curveFp2 P seedX)

/-- R414: the sequence of the rule's code. -/
def G2Point.clearCofactor (P : G2Point) : G2Point :=
  let t1 := G2Point.scaleNegX P
  let t2 := G2Point.psi P
  let t3 := G2Point.psi2 (Proj.add curveFp2 P P)
  let t3 := Proj.add curveFp2 t3 (Proj.neg curveFp2 t2)
  let t2 := Proj.add curveFp2 t1 t2
  let t2 := G2Point.scaleNegX t2
  let t3 := Proj.add curveFp2 t3 t2
  let t3 := Proj.add curveFp2 t3 (Proj.neg curveFp2 t1)
  Proj.add curveFp2 t3 (Proj.neg curveFp2 P)

end Sys2Proof
end

