-- ==== Sys2Proof/Machine/Pairing.lean ====
section
/-! DEFINITION. The pairing functions, spec/47_pairing.md section 1 (R460 to R469). The input checks of R461 are made
by the instruction. -/

namespace Sys2Proof

/-- A line-function coefficient triple `(c0, c1, c2)` (R462). -/
structure LineCoeffs where
  c0 : Fp2
  c1 : Fp2
  c2 : Fp2
  deriving DecidableEq, Repr

/-- `mulB` of R463. -/
def Pairing.mulB (a : Fp2) : Fp2 := Fp2.mul a curveFp2.b

/-- R463: the emitted triple and the new running point. -/
def Pairing.doublingStep (R : G2Point) : LineCoeffs × G2Point :=
  let t0 := Fp2.sqr R.y
  let t1 := Fp2.sqr R.z
  let t2 := Pairing.mulB (Fp2.scale t1 3)
  let t3 := Fp2.scale t2 3
  let t4 := Fp2.sub (Fp2.sub (Fp2.sqr (Fp2.add R.y R.z)) t1) t0
  (⟨Fp2.sub t2 t0, Fp2.scale (Fp2.sqr R.x) 3, Fp2.neg t4⟩,
   ⟨Fp2.halve (Fp2.mul (Fp2.mul (Fp2.sub t0 t3) R.x) R.y),
    Fp2.sub (Fp2.sqr (Fp2.halve (Fp2.add t0 t3))) (Fp2.scale (Fp2.sqr t2) 3),
    Fp2.mul t0 t4⟩)

/-- R464: the emitted triple and the new running point; `(qx, qy)` is the affine `Q`. -/
def Pairing.additionStep (qx qy : Fp2) (R : G2Point) : LineCoeffs × G2Point :=
  let t0 := Fp2.sub R.y (Fp2.mul qy R.z)
  let t1 := Fp2.sub R.x (Fp2.mul qx R.z)
  let t2 := Fp2.sqr t1
  let t3 := Fp2.mul t2 t1
  let t4 := Fp2.mul t2 R.x
  let t5 := Fp2.add (Fp2.sub t3 (Fp2.scale t4 2)) (Fp2.mul (Fp2.sqr t0) R.z)
  (⟨Fp2.sub (Fp2.mul t0 qx) (Fp2.mul t1 qy), Fp2.neg t0, t1⟩,
   ⟨Fp2.mul t1 t5, Fp2.sub (Fp2.mul (Fp2.sub t4 t5) t0) (Fp2.mul t3 R.y), Fp2.mul R.z t3⟩)

/-- The passes `n − 1` down to 0 of R462 from the running point `R`. -/
def Pairing.precomputePasses (qx qy : Fp2) : Nat → G2Point → List LineCoeffs
  | 0, _ => []
  | i + 1, R =>
    let (e, R1) := Pairing.doublingStep R
    if seedX.testBit i then
      let (e2, R2) := Pairing.additionStep qx qy R1
      e :: e2 :: Pairing.precomputePasses qx qy i R2
    else e :: Pairing.precomputePasses qx qy i R1

/-- `precompute(Q)`: 63 passes, bits 62 down to 0 of `X`, from `R = (Qx, Qy, 1)` (R462). -/
def Pairing.precompute (qx qy : Fp2) : List LineCoeffs :=
  Pairing.precomputePasses qx qy 63 ⟨qx, qy, Fp2.one⟩

/-- R465: the sparse element a triple makes with the affine `P`. -/
def Pairing.line (c : LineCoeffs) (px py : Fp) : Fp12 :=
  ⟨⟨c.c0, Fp2.scaleFp c.c1 px, Fp2.zero⟩, ⟨Fp2.zero, Fp2.scaleFp c.c2 py, Fp2.zero⟩⟩

/-- Multiplies the accumulator by the line of the next triple, R466's `ell[j]; j <- j + 1`. -/
def Pairing.absorb (px py : Fp) : List LineCoeffs × Fp12 → List LineCoeffs × Fp12
  | ([], f) => ([], f)
  | (c :: ell, f) => (ell, Fp12.mul f (Pairing.line c px py))

/-- The passes `n − 1` down to 0 of the loop of R466. -/
def Pairing.millerPasses (px py : Fp) : Nat → List LineCoeffs × Fp12 → Fp12
  | 0, acc => acc.2
  | i + 1, acc =>
    let acc1 := Pairing.absorb px py acc
    let acc2 := if seedX.testBit i then Pairing.absorb px py acc1 else acc1
    Pairing.millerPasses px py i (acc2.1, if i = 0 then acc2.2 else Fp12.sqr acc2.2)

/-- The Miller loop on affine operands (R466). -/
def Pairing.millerAffine (px py : Fp) (qx qy : Fp2) : Fp12 :=
  Fp12.conj (Pairing.millerPasses px py 63 (Pairing.precompute qx qy, Fp12.one))

/-- `Pairing.miller` after the checks of R461. -/
def Pairing.miller (P : G1Point) (Q : G2Point) : Fp12 :=
  let a := Proj.toAffine curveFp P
  let b := Proj.toAffine curveFp2 Q
  Pairing.millerAffine a.1 a.2 b.1 b.2

/-- R467: none where the rule raises `INV_ZERO`. -/
def Pairing.finalExp (f : Fp12) : Option Fp12 :=
  if Fp12.isZero f then none else some (Fp12.pow f finalExponent)

/-- R469: none where the rule raises `INV_ZERO`. -/
def Pairing.finalVerify (f : Fp12) : Option Bool := (Pairing.finalExp f).map Fp12.isOne

end Sys2Proof
end

