-- ==== Sys2Proof/Machine/Operands.lean ====
section
/-! DEFINITION. Operand forms: the effective address (spec/30_encoding.md R97, spec/20_memory.md R68), branch
targets (R98), immediates (R96) and the memory form of every value (spec/20_memory.md R63 to R65). -/

namespace Sys2Proof.Machine

/-- `EA = a[B] + zext(IMM)`, an unbounded integer (R68, R97). -/
def State.ea {w : Nat} (s : State) (b : AReg) (imm : BitVec w) : Nat := (s.readA b).toNat + imm.toNat

/-- The target of a branch or jump, relative to the instruction itself (R98). -/
def State.target (s : State) (off : BitVec 16) : BitVec 16 := addSext16 s.pc off

/-- A 16-bit immediate as a field element, always below `p` (R172). -/
def immFp (imm : BitVec 16) : Fp := Fp.ofNat imm.toNat

/-! ### Memory form of values -/

/-- `be_48(n)` of an integer register (R64). -/
def integerBytes (n : BitVec 384) : List (BitVec 8) := beBytes 48 n.toNat

/-- R64. -/
def fpBytes (v : Fp) : List (BitVec 8) := beBytes 48 v.val

/-- R65: `c0` first. -/
def fp2Bytes (v : Fp2) : List (BitVec 8) := fpBytes v.c0 ++ fpBytes v.c1

/-- R65. -/
def fp6Bytes (v : Fp6) : List (BitVec 8) := fp2Bytes v.c0 ++ fp2Bytes v.c1 ++ fp2Bytes v.c2

/-- R65. -/
def fp12Bytes (v : Fp12) : List (BitVec 8) := fp6Bytes v.c0 ++ fp6Bytes v.c1

/-- The integer 48 bytes spell: every string is accepted (R64, R135). -/
def parseInteger (bytes : List (BitVec 8)) : BitVec 384 := BitVec.ofNat 384 (fromBe bytes)

/-- The field element the 48 bytes at `addr` spell: `FP_RANGE(addr)` when it is not below `p` (R64, R526). -/
def parseFp (addr : Nat) (bytes : List (BitVec 8)) : Except Trap Fp :=
  if h : fromBe bytes < Config.p then .ok ⟨fromBe bytes, h⟩ else .error ⟨.fpRange, addr⟩

/-- The 96 bytes at `addr`, groups checked in address order (R65, R526). -/
def parseFp2 (addr : Nat) (bytes : List (BitVec 8)) : Except Trap Fp2 :=
  (parseFp addr (bytes.take 48)).bind fun c0 =>
  (parseFp (addr + 48) (bytes.drop 48)).bind fun c1 => .ok ⟨c0, c1⟩

/-- The 288 bytes at `addr`, groups checked in address order (R65, R526). -/
def parseFp6 (addr : Nat) (bytes : List (BitVec 8)) : Except Trap Fp6 :=
  (parseFp2 addr (bytes.take 96)).bind fun c0 =>
  (parseFp2 (addr + 96) ((bytes.drop 96).take 96)).bind fun c1 =>
  (parseFp2 (addr + 192) (bytes.drop 192)).bind fun c2 => .ok ⟨c0, c1, c2⟩

/-- The 576 bytes at `addr`, groups checked in address order (R65, R526). -/
def parseFp12 (addr : Nat) (bytes : List (BitVec 8)) : Except Trap Fp12 :=
  (parseFp6 addr (bytes.take 288)).bind fun c0 =>
  (parseFp6 (addr + 288) (bytes.drop 288)).bind fun c1 => .ok ⟨c0, c1⟩

/-! ### Loads and stores -/

/-- A load: the range check over all `n` bytes, then the value they spell, then the register write (R69, R525,
R526). -/
def load {α : Type} (s : State) (ea n : Nat) (parse : List (BitVec 8) → Except Trap α) (write : α → State) : Result :=
  complete s ((s.memRead ea n).bind fun bytes => (parse bytes).bind fun v => .ok (write v))

/-- A store: the source register first, then the range check over the whole access (R69, R525, R535). -/
def store {α : Type} (s : State) (x : Except Trap α) (ea : Nat) (image : α → List (BitVec 8)) : Result :=
  complete s (x.bind fun v => s.memWrite ea (image v))

end Sys2Proof.Machine
end

