-- ==== Sys2Proof/Machine/Codec.lean ====
section
/-! DEFINITION. The compressed point codec, spec/48_codec.md section 1 (R490 to R497). -/

namespace Sys2Proof.Machine

/-- The identity's encoding: `0xC0` and zeros, `n` bytes in all (R491, R492). -/
def Codec.identity (n : Nat) : List (BitVec 8) := 0xC0 :: List.replicate (n - 1) 0

/-- The compression flag, byte 0 bit 7 (R490). -/
def Codec.compressed (h : BitVec 8) : Bool := h &&& 0x80 != 0

/-- The infinity flag, byte 0 bit 6 (R490). -/
def Codec.infinite (h : BitVec 8) : Bool := h &&& 0x40 != 0

/-- The sign flag, byte 0 bit 5 (R490). -/
def Codec.signed (h : BitVec 8) : Bool := h &&& 0x20 != 0

/-- Byte 0 with its three header bits masked, and the other bytes (R490). -/
def Codec.unmask (bytes : List (BitVec 8)) : List (BitVec 8) := (bytes.headD 0 &&& 0x1F) :: bytes.tail

/-- The header checks both groups share, then `point sign` (R493, R494). -/
def Codec.withHeader {α : Type} (n : Nat) (buf : List (BitVec 8)) (zero : α) (point : Bool → Except Trap α) :
    Except Trap α :=
  let h := buf.headD 0
  if !Codec.compressed h then .error ⟨.fmtHeader, h.toNat⟩
  else if Codec.infinite h then
    if buf = Codec.identity n then .ok zero else .error ⟨.fmtHeader, h.toNat⟩
  else point (Codec.signed h)

/-- The point over `x` in Fp whose `y` has the sign asked for, `y² = y2` (R493). -/
def Codec.liftG1 (x : Fp) (sign : Bool) : Except Trap G1Point :=
  match Fp.sqrt (Fp.add (Fp.cube x) curveFp.b) with
  | none => .error ⟨.decNotOnCurve, 0⟩
  | some y => .ok ⟨x, if Fp.big y = sign then y else Fp.neg y, Fp.one⟩

/-- `Codec.decodeG1(buf)` (R493). -/
def Codec.decodeG1 (buf : List (BitVec 8)) : Except Trap G1Point :=
  Codec.withHeader 48 buf (Proj.zero curveFp) fun sign =>
    let x := fromBe (Codec.unmask buf)
    if x = 0 ∨ Config.p ≤ x then .error ⟨.decXrange, 0⟩ else Codec.liftG1 (Fp.ofNat x) sign

/-- The point over `x` in Fp2 whose `y` has the sign asked for (R494). -/
def Codec.liftG2 (x : Fp2) (sign : Bool) : Except Trap G2Point :=
  match Fp2.sqrt (Fp2.add (Fp2.cube x) curveFp2.b) with
  | none => .error ⟨.decNotOnCurve, 0⟩
  | some y => .ok ⟨x, if Fp2.big y = sign then y else Fp2.neg y, Fp2.one⟩

/-- `Codec.decodeG2(buf)` (R494). -/
def Codec.decodeG2 (buf : List (BitVec 8)) : Except Trap G2Point :=
  Codec.withHeader 96 buf (Proj.zero curveFp2) fun sign =>
    let x0 := fromBe (Codec.unmask (buf.take 48))
    let x1 := fromBe (buf.drop 48)
    if Config.p ≤ x0 ∨ Config.p ≤ x1 ∨ (x0 = 0 ∧ x1 = 0) then .error ⟨.decXrange, 0⟩
    else Codec.liftG2 ⟨Fp.ofNat x0, Fp.ofNat x1⟩ sign

/-- The header of a point that is not the identity ORed into byte 0 (R491, R495). -/
def Codec.addHeader (big : Bool) (bytes : List (BitVec 8)) : List (BitVec 8) :=
  (bytes.headD 0 ||| 0x80 ||| (if big then 0x20 else 0)) :: bytes.tail

/-- `Codec.encodeG1(P)` (R495). -/
def Codec.encodeG1 (P : G1Point) : List (BitVec 8) :=
  if Proj.isZero curveFp P then Codec.identity 48
  else
    let a := Proj.toAffine curveFp P
    Codec.addHeader (Fp.big a.2) (fpBytes a.1)

/-- `Codec.encodeG2(P)` (R495). -/
def Codec.encodeG2 (P : G2Point) : List (BitVec 8) :=
  if Proj.isZero curveFp2 P then Codec.identity 96
  else
    let a := Proj.toAffine curveFp2 P
    Codec.addHeader (Fp2.big a.2) (fp2Bytes a.1)

/-- A decode: the length, then the range, then what the bytes say (R500, R502, R535). -/
def decodePoint {α : Type} (s : State) (c : AReg) (ea n : Nat) (dec : List (BitVec 8) → Except Trap α)
    (write : α → State) : Result :=
  if (s.readA c).toNat = n then load s ea n dec write
  else .next (s.raise ⟨.fmtLength, (s.readA c).toNat⟩)

end Sys2Proof.Machine
end

