-- ==== Sys2Proof/Machine/ExecCodec.lean ====
section
/-! DEFINITION. Codec instructions, spec/48_codec.md section 2 (R500 to R503).
The order of the reads is the order of the fields (R527). -/

namespace Sys2Proof.Machine

/-- G1.DEC, R500. Decode a compressed point from DMEM. -/
def execG1Dec (a : GReg) (b c : AReg) (imm : BitVec 12) (s : State) : Result :=
  decodePoint s c (s.ea b imm) 48 Codec.decodeG1 (s.setG a)

/-- G1.ENC, R501. Encode a point to DMEM. -/
def execG1Enc (a : GReg) (b : AReg) (imm : BitVec 16) (s : State) : Result :=
  store s (s.readG a) (s.ea b imm) Codec.encodeG1

/-- G2.DEC, R502. Decode a compressed point from DMEM. -/
def execG2Dec (a : HReg) (b c : AReg) (imm : BitVec 12) (s : State) : Result :=
  decodePoint s c (s.ea b imm) 96 Codec.decodeG2 (s.setH a)

/-- G2.ENC, R503. Encode a point to DMEM. -/
def execG2Enc (a : HReg) (b : AReg) (imm : BitVec 16) (s : State) : Result :=
  store s (s.readH a) (s.ea b imm) Codec.encodeG2

end Sys2Proof.Machine
end

