-- ==== Sys2Proof/Machine/Flags.lean ====
section
/-! DEFINITION. The test flag `T`, BMAP's only flag (spec/10_state.md R23): the instructions that write it and the
two that read it. -/

namespace Sys2Proof.Machine

/-- A test of one register: `T` receives the answer, nothing else changes but `pc` (R23). -/
def test1 {α : Type} (s : State) (x : Except Trap α) (f : α → Bool) : Result := compute1 s x f s.setTest

/-- A test of two registers (R23). -/
def test2 {α β : Type} (s : State) (x : Except Trap α) (y : Except Trap β) (f : α → β → Bool) : Result :=
  compute2 s x y f s.setTest

/-- A test that has no answer for some operands; `T` is then unchanged (R23, R477). -/
def attemptTest1 {α : Type} (s : State) (x : Except Trap α) (f : α → Option Bool) (c : Cause) : Result :=
  attempt1 s x f c s.setTest

/-- A branch: to the target when the condition holds, else to the next word (R98, R121). -/
def branch (s : State) (taken : Bool) (off : BitVec 16) : Result :=
  .next (s.setPc (if taken then s.target off else s.pc + 1))

end Sys2Proof.Machine
end

