-- ==== Sys2Proof/Machine/ExecControl.lean ====
section
/-! DEFINITION. Sequencer and address-register instructions, spec/40_control.md sections 2 and 3 (R123 to R133). -/

namespace Sys2Proof.Machine

/-- NOP, R123. Nothing but `pc` changes. -/
def execNop (s : State) : Result :=
  complete s (.ok s)

/-- HALT, R124. End the run. -/
def execHalt (s : State) : Result :=
  complete s (.ok (s.setRun .halted))

/-- TRAP, R125. Always raises `SOFT_TRAP(imm16)`. -/
def execTrap (imm : BitVec 16) (s : State) : Result :=
  conclude s (.error ⟨.softTrap, imm.toNat⟩)

/-- J, R126. Unconditional jump. -/
def execJ (off : BitVec 16) (s : State) : Result :=
  branch s true off

/-- BT, R127. Branch if `T` is 1. -/
def execBt (off : BitVec 16) (s : State) : Result :=
  branch s s.tflag off

/-- BF, R128. Branch if `T` is 0. -/
def execBf (off : BitVec 16) (s : State) : Result :=
  branch s (!s.tflag) off

/-- BANZ, R129. Branch if an address register is not zero. -/
def execBanz (a : AReg) (off : BitVec 16) (s : State) : Result :=
  branch s (s.readA a != 0) off

/-- JAL, R130. Jump, then link; a link to `a0` is discarded. -/
def execJal (a : AReg) (off : BitVec 16) (s : State) : Result :=
  conclude s (.ok ((s.setPc (s.target off)).setA a (s.pc + 1)))

/-- JR, R131. Jump to an address register. -/
def execJr (a : AReg) (s : State) : Result :=
  conclude s (.ok (s.setPc (s.readA a)))

/-- A.LI, R132. Load an immediate. -/
def execALi (a : AReg) (imm : BitVec 16) (s : State) : Result :=
  complete s (.ok (s.setA a imm))

/-- A.ADDI, R133. Add a signed immediate modulo 2^16. -/
def execAAddi (a b : AReg) (imm : BitVec 16) (s : State) : Result :=
  complete s (.ok (s.setA a (addSext16 (s.readA b) imm)))

end Sys2Proof.Machine
end

