-- ==== Sys2Proof/Machine/ExecFp.lean ====
section
/-! DEFINITION. Fp instructions, spec/41_fp.md section 2 (R170 to R188).
The order of the reads is the order of the fields (R527). -/

namespace Sys2Proof.Machine

/-- FP.LD, R170. Load, each 48-byte group below `p`. -/
def execFpLd (a : FReg) (b : AReg) (imm : BitVec 16) (s : State) : Result :=
  load s (s.ea b imm) 48 (parseFp (s.ea b imm)) (s.setF a)

/-- FP.ST, R171. Store the flattening. -/
def execFpSt (a : FReg) (b : AReg) (imm : BitVec 16) (s : State) : Result :=
  store s (s.readF a) (s.ea b imm) fpBytes

/-- FP.LI, R172. Load a small constant. -/
def execFpLi (a : FReg) (imm : BitVec 16) (s : State) : Result :=
  complete s (.ok (s.setF a (immFp imm)))

/-- FP.MOV, R173. Copy. -/
def execFpMov (a b : FReg) (s : State) : Result :=
  compute1 s (s.readF b) id (s.setF a)

/-- FP.ADD, R174. Sum. -/
def execFpAdd (a b c : FReg) (s : State) : Result :=
  compute2 s (s.readF b) (s.readF c) Fp.add (s.setF a)

/-- FP.SUB, R175. First source minus the second. -/
def execFpSub (a b c : FReg) (s : State) : Result :=
  compute2 s (s.readF b) (s.readF c) Fp.sub (s.setF a)

/-- FP.NEG, R176. Negation. -/
def execFpNeg (a b : FReg) (s : State) : Result :=
  compute1 s (s.readF b) Fp.neg (s.setF a)

/-- FP.MUL, R177. Product. -/
def execFpMul (a b c : FReg) (s : State) : Result :=
  compute2 s (s.readF b) (s.readF c) Fp.mul (s.setF a)

/-- FP.SQR, R178. Square. -/
def execFpSqr (a b : FReg) (s : State) : Result :=
  compute1 s (s.readF b) Fp.sqr (s.setF a)

/-- FP.CUBE, R179. Cube. -/
def execFpCube (a b : FReg) (s : State) : Result :=
  compute1 s (s.readF b) Fp.cube (s.setF a)

/-- FP.HALVE, R180. Half. -/
def execFpHalve (a b : FReg) (s : State) : Result :=
  compute1 s (s.readF b) Fp.halve (s.setF a)

/-- FP.SCALE, R181. Multiple by an integer register. -/
def execFpScale (a b : FReg) (c : KReg) (s : State) : Result :=
  compute2 s (s.readF b) (s.readK c) (fun x n => Fp.scale x n.toNat) (s.setF a)

/-- FP.POW, R182. Power by an integer register. -/
def execFpPow (a b : FReg) (c : KReg) (s : State) : Result :=
  compute2 s (s.readF b) (s.readK c) (fun x n => Fp.pow x n.toNat) (s.setF a)

/-- FP.INV, R183. Inverse; `INV_ZERO` of zero. -/
def execFpInv (a b : FReg) (s : State) : Result :=
  attempt1 s (s.readF b) Fp.inv .invZero (s.setF a)

/-- FP.DIV, R184. First source over the second; `INV_ZERO` when that is zero. -/
def execFpDiv (a b c : FReg) (s : State) : Result :=
  attempt2 s (s.readF b) (s.readF c) Fp.div .invZero (s.setF a)

/-- FP.SQRT, R185. The square root the rule fixes; `NO_SQRT` of a non-square. -/
def execFpSqrt (a b : FReg) (s : State) : Result :=
  attempt1 s (s.readF b) Fp.sqrt .noSqrt (s.setF a)

/-- FP.EQ, R186. `T` is whether the two are equal. -/
def execFpEq (b c : FReg) (s : State) : Result :=
  test2 s (s.readF b) (s.readF c) Fp.eq

/-- FP.ISZERO, R187. `T` is whether it is zero. -/
def execFpIszero (b : FReg) (s : State) : Result :=
  test1 s (s.readF b) Fp.isZero

/-- FP.ISONE, R188. `T` is whether it is one. -/
def execFpIsone (b : FReg) (s : State) : Result :=
  test1 s (s.readF b) Fp.isOne

end Sys2Proof.Machine
end

