-- ==== Sys2Proof/Machine/ExecFp12.lean ====
section
/-! DEFINITION. Fp12 instructions, spec/44_fp12.md section 2 (R330 to R353).
The order of the reads is the order of the fields (R527). -/

namespace Sys2Proof.Machine

/-- FP12.LD, R330. Load, each 48-byte group below `p`. -/
def execFp12Ld (a : TReg) (b : AReg) (imm : BitVec 16) (s : State) : Result :=
  load s (s.ea b imm) 576 (parseFp12 (s.ea b imm)) (s.setT a)

/-- FP12.ST, R331. Store the flattening. -/
def execFp12St (a : TReg) (b : AReg) (imm : BitVec 16) (s : State) : Result :=
  store s (s.readT a) (s.ea b imm) fp12Bytes

/-- FP12.LI, R332. Load a small constant. -/
def execFp12Li (a : TReg) (imm : BitVec 16) (s : State) : Result :=
  complete s (.ok (s.setT a (Fp12.emb (immFp imm))))

/-- FP12.MOV, R333. Copy. -/
def execFp12Mov (a b : TReg) (s : State) : Result :=
  compute1 s (s.readT b) id (s.setT a)

/-- FP12.ADD, R334. Sum. -/
def execFp12Add (a b c : TReg) (s : State) : Result :=
  compute2 s (s.readT b) (s.readT c) Fp12.add (s.setT a)

/-- FP12.SUB, R335. First source minus the second. -/
def execFp12Sub (a b c : TReg) (s : State) : Result :=
  compute2 s (s.readT b) (s.readT c) Fp12.sub (s.setT a)

/-- FP12.NEG, R336. Negation. -/
def execFp12Neg (a b : TReg) (s : State) : Result :=
  compute1 s (s.readT b) Fp12.neg (s.setT a)

/-- FP12.MUL, R337. Product. -/
def execFp12Mul (a b c : TReg) (s : State) : Result :=
  compute2 s (s.readT b) (s.readT c) Fp12.mul (s.setT a)

/-- FP12.SQR, R338. Square. -/
def execFp12Sqr (a b : TReg) (s : State) : Result :=
  compute1 s (s.readT b) Fp12.sqr (s.setT a)

/-- FP12.CUBE, R339. Cube. -/
def execFp12Cube (a b : TReg) (s : State) : Result :=
  compute1 s (s.readT b) Fp12.cube (s.setT a)

/-- FP12.HALVE, R340. Half. -/
def execFp12Halve (a b : TReg) (s : State) : Result :=
  compute1 s (s.readT b) Fp12.halve (s.setT a)

/-- FP12.SCALE, R341. Multiple by an integer register. -/
def execFp12Scale (a b : TReg) (c : KReg) (s : State) : Result :=
  compute2 s (s.readT b) (s.readK c) (fun x n => Fp12.scale x n.toNat) (s.setT a)

/-- FP12.POW, R342. Power by an integer register. -/
def execFp12Pow (a b : TReg) (c : KReg) (s : State) : Result :=
  compute2 s (s.readT b) (s.readK c) (fun x n => Fp12.pow x n.toNat) (s.setT a)

/-- FP12.INV, R343. Inverse; `INV_ZERO` of zero. -/
def execFp12Inv (a b : TReg) (s : State) : Result :=
  attempt1 s (s.readT b) Fp12.inv .invZero (s.setT a)

/-- FP12.DIV, R344. First source over the second; `INV_ZERO` when that is zero. -/
def execFp12Div (a b c : TReg) (s : State) : Result :=
  attempt2 s (s.readT b) (s.readT c) Fp12.div .invZero (s.setT a)

/-- FP12.EQ, R345. `T` is whether the two are equal. -/
def execFp12Eq (b c : TReg) (s : State) : Result :=
  test2 s (s.readT b) (s.readT c) Fp12.eq

/-- FP12.ISZERO, R346. `T` is whether it is zero. -/
def execFp12Iszero (b : TReg) (s : State) : Result :=
  test1 s (s.readT b) Fp12.isZero

/-- FP12.ISONE, R347. `T` is whether it is one. -/
def execFp12Isone (b : TReg) (s : State) : Result :=
  test1 s (s.readT b) Fp12.isOne

/-- FP12.PACK, R348. Build an element, lowest coordinate first. -/
def execFp12Pack (a : TReg) (b c : SReg) (s : State) : Result :=
  compute2 s (s.readS b) (s.readS c) Fp12.mk (s.setT a)

/-- FP12.GET, R349. Extract the coordinate `FN`. -/
def execFp12Get (a : SReg) (b : TReg) (fn : BitVec 8) (s : State) : Result :=
  compute1 s (s.readT b) (fun x => if fn = 0 then x.c0 else x.c1) (s.setS a)

/-- FP12.POWP, R350. The Frobenius endomorphism `x^(p^FN)`. -/
def execFp12Powp (a b : TReg) (fn : BitVec 8) (s : State) : Result :=
  compute1 s (s.readT b) (fun x => Fp12.powp x fn.toNat) (s.setT a)

/-- FP12.CONJ, R351. Conjugate. -/
def execFp12Conj (a b : TReg) (s : State) : Result :=
  compute1 s (s.readT b) Fp12.conj (s.setT a)

/-- FP12.CYCSQR, R352. The square in the cyclotomic subgroup, a free value outside it (U1, log 4). -/
def execFp12Cycsqr (a b : TReg) (s : State) : Result :=
  compute1 s (s.readT b) id fun x =>
    if Fp12.inCyclotomic x then s.setT a (Fp12.sqr x) else (s.setT a (Fp12.unspecified s.draws)).drew

/-- FP12.CYCPOW, R353. The power in the cyclotomic subgroup, a free value outside it but for exponents 0 and 1 (U1, log 4). -/
def execFp12Cycpow (a b : TReg) (c : KReg) (s : State) : Result :=
  compute2 s (s.readT b) (s.readK c) Prod.mk fun xn =>
    if xn.2 = 0 then s.setT a Fp12.one
    else if xn.2 = 1 then s.setT a xn.1
    else if Fp12.inCyclotomic xn.1 then s.setT a (Fp12.pow xn.1 xn.2.toNat)
    else (s.setT a (Fp12.unspecified s.draws)).drew

end Sys2Proof.Machine
end

