-- ==== Sys2Proof/Machine/ExecFp2.lean ====
section
/-! DEFINITION. Fp2 instructions, spec/42_fp2.md section 2 (R220 to R240).
The order of the reads is the order of the fields (R527). -/

namespace Sys2Proof.Machine

/-- FP2.LD, R220. Load, each 48-byte group below `p`. -/
def execFp2Ld (a : QReg) (b : AReg) (imm : BitVec 16) (s : State) : Result :=
  load s (s.ea b imm) 96 (parseFp2 (s.ea b imm)) (s.setQ a)

/-- FP2.ST, R221. Store the flattening. -/
def execFp2St (a : QReg) (b : AReg) (imm : BitVec 16) (s : State) : Result :=
  store s (s.readQ a) (s.ea b imm) fp2Bytes

/-- FP2.LI, R222. Load a small constant. -/
def execFp2Li (a : QReg) (imm : BitVec 16) (s : State) : Result :=
  complete s (.ok (s.setQ a (Fp2.emb (immFp imm))))

/-- FP2.MOV, R223. Copy. -/
def execFp2Mov (a b : QReg) (s : State) : Result :=
  compute1 s (s.readQ b) id (s.setQ a)

/-- FP2.ADD, R224. Sum. -/
def execFp2Add (a b c : QReg) (s : State) : Result :=
  compute2 s (s.readQ b) (s.readQ c) Fp2.add (s.setQ a)

/-- FP2.SUB, R225. First source minus the second. -/
def execFp2Sub (a b c : QReg) (s : State) : Result :=
  compute2 s (s.readQ b) (s.readQ c) Fp2.sub (s.setQ a)

/-- FP2.NEG, R226. Negation. -/
def execFp2Neg (a b : QReg) (s : State) : Result :=
  compute1 s (s.readQ b) Fp2.neg (s.setQ a)

/-- FP2.MUL, R227. Product. -/
def execFp2Mul (a b c : QReg) (s : State) : Result :=
  compute2 s (s.readQ b) (s.readQ c) Fp2.mul (s.setQ a)

/-- FP2.SQR, R228. Square. -/
def execFp2Sqr (a b : QReg) (s : State) : Result :=
  compute1 s (s.readQ b) Fp2.sqr (s.setQ a)

/-- FP2.CUBE, R229. Cube. -/
def execFp2Cube (a b : QReg) (s : State) : Result :=
  compute1 s (s.readQ b) Fp2.cube (s.setQ a)

/-- FP2.HALVE, R230. Half. -/
def execFp2Halve (a b : QReg) (s : State) : Result :=
  compute1 s (s.readQ b) Fp2.halve (s.setQ a)

/-- FP2.SCALE, R231. Multiple by an integer register. -/
def execFp2Scale (a b : QReg) (c : KReg) (s : State) : Result :=
  compute2 s (s.readQ b) (s.readK c) (fun x n => Fp2.scale x n.toNat) (s.setQ a)

/-- FP2.POW, R232. Power by an integer register. -/
def execFp2Pow (a b : QReg) (c : KReg) (s : State) : Result :=
  compute2 s (s.readQ b) (s.readK c) (fun x n => Fp2.pow x n.toNat) (s.setQ a)

/-- FP2.INV, R233. Inverse; `INV_ZERO` of zero. -/
def execFp2Inv (a b : QReg) (s : State) : Result :=
  attempt1 s (s.readQ b) Fp2.inv .invZero (s.setQ a)

/-- FP2.DIV, R234. First source over the second; `INV_ZERO` when that is zero. -/
def execFp2Div (a b c : QReg) (s : State) : Result :=
  attempt2 s (s.readQ b) (s.readQ c) Fp2.div .invZero (s.setQ a)

/-- FP2.SQRT, R235. The square root the rule fixes; `NO_SQRT` of a non-square. -/
def execFp2Sqrt (a b : QReg) (s : State) : Result :=
  attempt1 s (s.readQ b) Fp2.sqrt .noSqrt (s.setQ a)

/-- FP2.EQ, R236. `T` is whether the two are equal. -/
def execFp2Eq (b c : QReg) (s : State) : Result :=
  test2 s (s.readQ b) (s.readQ c) Fp2.eq

/-- FP2.ISZERO, R237. `T` is whether it is zero. -/
def execFp2Iszero (b : QReg) (s : State) : Result :=
  test1 s (s.readQ b) Fp2.isZero

/-- FP2.ISONE, R238. `T` is whether it is one. -/
def execFp2Isone (b : QReg) (s : State) : Result :=
  test1 s (s.readQ b) Fp2.isOne

/-- FP2.PACK, R239. Build an element, lowest coordinate first. -/
def execFp2Pack (a : QReg) (b c : FReg) (s : State) : Result :=
  compute2 s (s.readF b) (s.readF c) Fp2.mk (s.setQ a)

/-- FP2.GET, R240. Extract the coordinate `FN`. -/
def execFp2Get (a : FReg) (b : QReg) (fn : BitVec 8) (s : State) : Result :=
  compute1 s (s.readQ b) (fun x => if fn = 0 then x.c0 else x.c1) (s.setF a)

end Sys2Proof.Machine
end

