-- ==== Sys2Proof/Machine/ExecFp6.lean ====
section
/-! DEFINITION. Fp6 instructions, spec/43_fp6.md section 2 (R270 to R289).
The order of the reads is the order of the fields (R527). -/

namespace Sys2Proof.Machine

/-- FP6.LD, R270. Load, each 48-byte group below `p`. -/
def execFp6Ld (a : SReg) (b : AReg) (imm : BitVec 16) (s : State) : Result :=
  load s (s.ea b imm) 288 (parseFp6 (s.ea b imm)) (s.setS a)

/-- FP6.ST, R271. Store the flattening. -/
def execFp6St (a : SReg) (b : AReg) (imm : BitVec 16) (s : State) : Result :=
  store s (s.readS a) (s.ea b imm) fp6Bytes

/-- FP6.LI, R272. Load a small constant. -/
def execFp6Li (a : SReg) (imm : BitVec 16) (s : State) : Result :=
  complete s (.ok (s.setS a (Fp6.emb (immFp imm))))

/-- FP6.MOV, R273. Copy. -/
def execFp6Mov (a b : SReg) (s : State) : Result :=
  compute1 s (s.readS b) id (s.setS a)

/-- FP6.ADD, R274. Sum. -/
def execFp6Add (a b c : SReg) (s : State) : Result :=
  compute2 s (s.readS b) (s.readS c) Fp6.add (s.setS a)

/-- FP6.SUB, R275. First source minus the second. -/
def execFp6Sub (a b c : SReg) (s : State) : Result :=
  compute2 s (s.readS b) (s.readS c) Fp6.sub (s.setS a)

/-- FP6.NEG, R276. Negation. -/
def execFp6Neg (a b : SReg) (s : State) : Result :=
  compute1 s (s.readS b) Fp6.neg (s.setS a)

/-- FP6.MUL, R277. Product. -/
def execFp6Mul (a b c : SReg) (s : State) : Result :=
  compute2 s (s.readS b) (s.readS c) Fp6.mul (s.setS a)

/-- FP6.SQR, R278. Square. -/
def execFp6Sqr (a b : SReg) (s : State) : Result :=
  compute1 s (s.readS b) Fp6.sqr (s.setS a)

/-- FP6.CUBE, R279. Cube. -/
def execFp6Cube (a b : SReg) (s : State) : Result :=
  compute1 s (s.readS b) Fp6.cube (s.setS a)

/-- FP6.HALVE, R280. Half. -/
def execFp6Halve (a b : SReg) (s : State) : Result :=
  compute1 s (s.readS b) Fp6.halve (s.setS a)

/-- FP6.SCALE, R281. Multiple by an integer register. -/
def execFp6Scale (a b : SReg) (c : KReg) (s : State) : Result :=
  compute2 s (s.readS b) (s.readK c) (fun x n => Fp6.scale x n.toNat) (s.setS a)

/-- FP6.POW, R282. Power by an integer register. -/
def execFp6Pow (a b : SReg) (c : KReg) (s : State) : Result :=
  compute2 s (s.readS b) (s.readK c) (fun x n => Fp6.pow x n.toNat) (s.setS a)

/-- FP6.INV, R283. Inverse; `INV_ZERO` of zero. -/
def execFp6Inv (a b : SReg) (s : State) : Result :=
  attempt1 s (s.readS b) Fp6.inv .invZero (s.setS a)

/-- FP6.DIV, R284. First source over the second; `INV_ZERO` when that is zero. -/
def execFp6Div (a b c : SReg) (s : State) : Result :=
  attempt2 s (s.readS b) (s.readS c) Fp6.div .invZero (s.setS a)

/-- FP6.EQ, R285. `T` is whether the two are equal. -/
def execFp6Eq (b c : SReg) (s : State) : Result :=
  test2 s (s.readS b) (s.readS c) Fp6.eq

/-- FP6.ISZERO, R286. `T` is whether it is zero. -/
def execFp6Iszero (b : SReg) (s : State) : Result :=
  test1 s (s.readS b) Fp6.isZero

/-- FP6.ISONE, R287. `T` is whether it is one. -/
def execFp6Isone (b : SReg) (s : State) : Result :=
  test1 s (s.readS b) Fp6.isOne

/-- FP6.PACK, R288. Build an element, lowest coordinate first. -/
def execFp6Pack (a : SReg) (b c d : QReg) (s : State) : Result :=
  compute3 s (s.readQ b) (s.readQ c) (s.readQ d) Fp6.mk (s.setS a)

/-- FP6.GET, R289. Extract the coordinate `FN`. -/
def execFp6Get (a : QReg) (b : SReg) (fn : BitVec 8) (s : State) : Result :=
  compute1 s (s.readS b) (fun x => if fn = 0 then x.c0 else if fn = 1 then x.c1 else x.c2) (s.setQ a)

end Sys2Proof.Machine
end

