-- ==== Sys2Proof/Machine/ExecG1.lean ====
section
/-! DEFINITION. G1 instructions, spec/45_g1.md section 2 (R385 to R398).
The order of the reads is the order of the fields (R527). -/

namespace Sys2Proof.Machine

/-- G1.ZERO, R385. The identity. -/
def execG1Zero (a : GReg) (s : State) : Result :=
  complete s (.ok (s.setG a (Proj.zero curveFp)))

/-- G1.MOV, R386. Copy the triple. -/
def execG1Mov (a b : GReg) (s : State) : Result :=
  compute1 s (s.readG b) id (s.setG a)

/-- G1.ADD, R387. Projective addition, the exact triple. -/
def execG1Add (a b c : GReg) (s : State) : Result :=
  compute2 s (s.readG b) (s.readG c) (Proj.add curveFp) (s.setG a)

/-- G1.DBL, R388. The sum of the point with itself. -/
def execG1Dbl (a b : GReg) (s : State) : Result :=
  compute1 s (s.readG b) (Proj.dbl curveFp) (s.setG a)

/-- G1.NEG, R389. Negates y. -/
def execG1Neg (a b : GReg) (s : State) : Result :=
  compute1 s (s.readG b) (Proj.neg curveFp) (s.setG a)

/-- G1.SCALE, R390. Scalar multiplication by an integer register. -/
def execG1Scale (a b : GReg) (c : KReg) (s : State) : Result :=
  compute2 s (s.readG b) (s.readK c) (fun P n => Proj.scale curveFp P n.toNat) (s.setG a)

/-- G1.CLRCOF, R391. Cofactor clearing. -/
def execG1Clrcof (a b : GReg) (s : State) : Result :=
  compute1 s (s.readG b) G1Point.clearCofactor (s.setG a)

/-- G1.FROMAFF, R392. From affine coordinates. -/
def execG1Fromaff (a : GReg) (b c : FReg) (s : State) : Result :=
  compute2 s (s.readF b) (s.readF c) (Proj.fromAffine curveFp) (s.setG a)

/-- G1.TOAFF, R393. To affine coordinates: x, then y. -/
def execG1Toaff (a : FReg) (b : GReg) (c : FReg) (s : State) : Result :=
  compute1 s (s.readG b) (Proj.toAffine curveFp) fun xy => (s.setF a xy.1).setF c xy.2

/-- G1.PACK, R394. Any three coordinates. -/
def execG1Pack (a : GReg) (b c d : FReg) (s : State) : Result :=
  compute3 s (s.readF b) (s.readF c) (s.readF d) Proj.mk (s.setG a)

/-- G1.GET, R395. Extract the coordinate `FN`. -/
def execG1Get (a : FReg) (b : GReg) (fn : BitVec 8) (s : State) : Result :=
  compute1 s (s.readG b) (fun P => if fn = 0 then P.x else if fn = 1 then P.y else P.z) (s.setF a)

/-- G1.EQ, R396. `T` is whether the two are equal as points. -/
def execG1Eq (b c : GReg) (s : State) : Result :=
  test2 s (s.readG b) (s.readG c) (Proj.eq curveFp)

/-- G1.ISZERO, R397. `T` is whether z is zero. -/
def execG1Iszero (b : GReg) (s : State) : Result :=
  test1 s (s.readG b) (Proj.isZero curveFp)

/-- G1.ISVALID, R398. `T` is whether the curve equation holds. -/
def execG1Isvalid (b : GReg) (s : State) : Result :=
  test1 s (s.readG b) (Proj.isValid curveFp)

end Sys2Proof.Machine
end

