-- ==== Sys2Proof/Machine/ExecG2.lean ====
section
/-! DEFINITION. G2 instructions, spec/46_g2.md section 2 (R420 to R435).
The order of the reads is the order of the fields (R527). -/

namespace Sys2Proof.Machine

/-- G2.ZERO, R420. The identity. -/
def execG2Zero (a : HReg) (s : State) : Result :=
  complete s (.ok (s.setH a (Proj.zero curveFp2)))

/-- G2.MOV, R421. Copy the triple. -/
def execG2Mov (a b : HReg) (s : State) : Result :=
  compute1 s (s.readH b) id (s.setH a)

/-- G2.ADD, R422. Projective addition, the exact triple. -/
def execG2Add (a b c : HReg) (s : State) : Result :=
  compute2 s (s.readH b) (s.readH c) (Proj.add curveFp2) (s.setH a)

/-- G2.DBL, R423. The sum of the point with itself. -/
def execG2Dbl (a b : HReg) (s : State) : Result :=
  compute1 s (s.readH b) (Proj.dbl curveFp2) (s.setH a)

/-- G2.NEG, R424. Negates y. -/
def execG2Neg (a b : HReg) (s : State) : Result :=
  compute1 s (s.readH b) (Proj.neg curveFp2) (s.setH a)

/-- G2.SCALE, R425. Scalar multiplication by an integer register. -/
def execG2Scale (a b : HReg) (c : KReg) (s : State) : Result :=
  compute2 s (s.readH b) (s.readK c) (fun P n => Proj.scale curveFp2 P n.toNat) (s.setH a)

/-- G2.CLRCOF, R426. Cofactor clearing. -/
def execG2Clrcof (a b : HReg) (s : State) : Result :=
  compute1 s (s.readH b) G2Point.clearCofactor (s.setH a)

/-- G2.FROMAFF, R427. From affine coordinates. -/
def execG2Fromaff (a : HReg) (b c : QReg) (s : State) : Result :=
  compute2 s (s.readQ b) (s.readQ c) (Proj.fromAffine curveFp2) (s.setH a)

/-- G2.TOAFF, R428. To affine coordinates: x, then y. -/
def execG2Toaff (a : QReg) (b : HReg) (c : QReg) (s : State) : Result :=
  compute1 s (s.readH b) (Proj.toAffine curveFp2) fun xy => (s.setQ a xy.1).setQ c xy.2

/-- G2.PACK, R429. Any three coordinates. -/
def execG2Pack (a : HReg) (b c d : QReg) (s : State) : Result :=
  compute3 s (s.readQ b) (s.readQ c) (s.readQ d) Proj.mk (s.setH a)

/-- G2.GET, R430. Extract the coordinate `FN`. -/
def execG2Get (a : QReg) (b : HReg) (fn : BitVec 8) (s : State) : Result :=
  compute1 s (s.readH b) (fun P => if fn = 0 then P.x else if fn = 1 then P.y else P.z) (s.setQ a)

/-- G2.EQ, R431. `T` is whether the two are equal as points. -/
def execG2Eq (b c : HReg) (s : State) : Result :=
  test2 s (s.readH b) (s.readH c) (Proj.eq curveFp2)

/-- G2.ISZERO, R432. `T` is whether z is zero. -/
def execG2Iszero (b : HReg) (s : State) : Result :=
  test1 s (s.readH b) (Proj.isZero curveFp2)

/-- G2.ISVALID, R433. `T` is whether the curve equation holds. -/
def execG2Isvalid (b : HReg) (s : State) : Result :=
  test1 s (s.readH b) (Proj.isValid curveFp2)

/-- G2.PSI, R434. The psi endomorphism. -/
def execG2Psi (a b : HReg) (s : State) : Result :=
  compute1 s (s.readH b) G2Point.psi (s.setH a)

/-- G2.PSI2, R435. Its square. -/
def execG2Psi2 (a b : HReg) (s : State) : Result :=
  compute1 s (s.readH b) G2Point.psi2 (s.setH a)

end Sys2Proof.Machine
end

