-- ==== Sys2Proof/Machine/ExecInteger.lean ====
section
/-! DEFINITION. Integer-register instructions, spec/40_control.md section 4 (R135 to R139).
The order of the reads is the order of the fields (R527). -/

namespace Sys2Proof.Machine

/-- K.LD, R135. Load a 384-bit integer, any 48 bytes. -/
def execKLd (a : KReg) (b : AReg) (imm : BitVec 16) (s : State) : Result :=
  load s (s.ea b imm) 48 (fun bytes => .ok (parseInteger bytes)) (s.setK a)

/-- K.ST, R136. Store a 384-bit integer. -/
def execKSt (a : KReg) (b : AReg) (imm : BitVec 16) (s : State) : Result :=
  store s (s.readK a) (s.ea b imm) integerBytes

/-- K.LI, R137. Load a small integer. -/
def execKLi (a : KReg) (imm : BitVec 16) (s : State) : Result :=
  complete s (.ok (s.setK a (imm.setWidth 384)))

/-- K.MOV, R138. Copy. -/
def execKMov (a b : KReg) (s : State) : Result :=
  compute1 s (s.readK b) id (s.setK a)

/-- K.MODR, R139. Reduce modulo the group order. -/
def execKModr (a b : KReg) (s : State) : Result :=
  compute1 s (s.readK b) (fun n => BitVec.ofNat 384 (n.toNat % orderR)) (s.setK a)

end Sys2Proof.Machine
end

