-- ==== Sys2Proof/Machine/ExecPairing.lean ====
section
/-! DEFINITION. Pairing instructions, spec/47_pairing.md section 2 (R475 to R477).
The order of the reads is the order of the fields (R527). -/

namespace Sys2Proof.Machine

/-- The input checks of R461, in its order: zero before invalid, the G1 operand before the G2 operand. -/
def pairingOperands (P : G1Point) (Q : G2Point) : Except Trap Unit :=
  if Proj.isZero curveFp P then .error ⟨.pairZero, 1⟩
  else if Proj.isZero curveFp2 Q then .error ⟨.pairZero, 2⟩
  else if !Proj.isValid curveFp P then .error ⟨.pairInvalid, 1⟩
  else if !Proj.isValid curveFp2 Q then .error ⟨.pairInvalid, 2⟩
  else .ok ()

/-- MILLER, R475. The Miller loop, after the checks of R461. -/
def execMiller (a : TReg) (b : GReg) (c : HReg) (s : State) : Result :=
  complete s ((s.readG b).bind fun P => (s.readH c).bind fun Q =>
    (pairingOperands P Q).bind fun _ => .ok (s.setT a (Pairing.miller P Q)))

/-- FINALEXP, R476. The final exponentiation; `INV_ZERO` of zero. -/
def execFinalExp (a b : TReg) (s : State) : Result :=
  attempt1 s (s.readT b) Pairing.finalExp .invZero (s.setT a)

/-- FINALVERIFY, R477. `T` is whether the final exponentiation gives one; `INV_ZERO` of zero. -/
def execFinalVerify (b : TReg) (s : State) : Result :=
  attemptTest1 s (s.readT b) Pairing.finalVerify .invZero

end Sys2Proof.Machine
end

