-- ==== Sys2Proof/Machine/Dispatch.lean ====
section
/-! DEFINITION. The meaning of every instruction, one arm each (spec/30_encoding.md R106). -/

namespace Sys2Proof.Machine

/-- What an instruction does in a state. -/
def exec (i : Instr) (s : State) : Host.Outcome State Fault Refusal :=
  match i with
  | .nop => Sys2Proof.Machine.execNop s
  | .halt => Sys2Proof.Machine.execHalt s
  | .trap imm => Sys2Proof.Machine.execTrap imm s
  | .j off => Sys2Proof.Machine.execJ off s
  | .bt off => Sys2Proof.Machine.execBt off s
  | .bf off => Sys2Proof.Machine.execBf off s
  | .banz a off => Sys2Proof.Machine.execBanz a off s
  | .jal a off => Sys2Proof.Machine.execJal a off s
  | .jr a => Sys2Proof.Machine.execJr a s
  | .aLi a imm => Sys2Proof.Machine.execALi a imm s
  | .aAddi a b imm => Sys2Proof.Machine.execAAddi a b imm s
  | .kLd a b imm => Sys2Proof.Machine.execKLd a b imm s
  | .kSt a b imm => Sys2Proof.Machine.execKSt a b imm s
  | .kLi a imm => Sys2Proof.Machine.execKLi a imm s
  | .kMov a b => Sys2Proof.Machine.execKMov a b s
  | .kModr a b => Sys2Proof.Machine.execKModr a b s
  | .fpLd a b imm => Sys2Proof.Machine.execFpLd a b imm s
  | .fpSt a b imm => Sys2Proof.Machine.execFpSt a b imm s
  | .fpLi a imm => Sys2Proof.Machine.execFpLi a imm s
  | .fpMov a b => Sys2Proof.Machine.execFpMov a b s
  | .fpAdd a b c => Sys2Proof.Machine.execFpAdd a b c s
  | .fpSub a b c => Sys2Proof.Machine.execFpSub a b c s
  | .fpNeg a b => Sys2Proof.Machine.execFpNeg a b s
  | .fpMul a b c => Sys2Proof.Machine.execFpMul a b c s
  | .fpSqr a b => Sys2Proof.Machine.execFpSqr a b s
  | .fpCube a b => Sys2Proof.Machine.execFpCube a b s
  | .fpHalve a b => Sys2Proof.Machine.execFpHalve a b s
  | .fpScale a b c => Sys2Proof.Machine.execFpScale a b c s
  | .fpPow a b c => Sys2Proof.Machine.execFpPow a b c s
  | .fpInv a b => Sys2Proof.Machine.execFpInv a b s
  | .fpDiv a b c => Sys2Proof.Machine.execFpDiv a b c s
  | .fpSqrt a b => Sys2Proof.Machine.execFpSqrt a b s
  | .fpEq b c => Sys2Proof.Machine.execFpEq b c s
  | .fpIszero b => Sys2Proof.Machine.execFpIszero b s
  | .fpIsone b => Sys2Proof.Machine.execFpIsone b s
  | .fp2Ld a b imm => Sys2Proof.Machine.execFp2Ld a b imm s
  | .fp2St a b imm => Sys2Proof.Machine.execFp2St a b imm s
  | .fp2Li a imm => Sys2Proof.Machine.execFp2Li a imm s
  | .fp2Mov a b => Sys2Proof.Machine.execFp2Mov a b s
  | .fp2Add a b c => Sys2Proof.Machine.execFp2Add a b c s
  | .fp2Sub a b c => Sys2Proof.Machine.execFp2Sub a b c s
  | .fp2Neg a b => Sys2Proof.Machine.execFp2Neg a b s
  | .fp2Mul a b c => Sys2Proof.Machine.execFp2Mul a b c s
  | .fp2Sqr a b => Sys2Proof.Machine.execFp2Sqr a b s
  | .fp2Cube a b => Sys2Proof.Machine.execFp2Cube a b s
  | .fp2Halve a b => Sys2Proof.Machine.execFp2Halve a b s
  | .fp2Scale a b c => Sys2Proof.Machine.execFp2Scale a b c s
  | .fp2Pow a b c => Sys2Proof.Machine.execFp2Pow a b c s
  | .fp2Inv a b => Sys2Proof.Machine.execFp2Inv a b s
  | .fp2Div a b c => Sys2Proof.Machine.execFp2Div a b c s
  | .fp2Sqrt a b => Sys2Proof.Machine.execFp2Sqrt a b s
  | .fp2Eq b c => Sys2Proof.Machine.execFp2Eq b c s
  | .fp2Iszero b => Sys2Proof.Machine.execFp2Iszero b s
  | .fp2Isone b => Sys2Proof.Machine.execFp2Isone b s
  | .fp2Pack a b c => Sys2Proof.Machine.execFp2Pack a b c s
  | .fp2Get a b fn => Sys2Proof.Machine.execFp2Get a b fn s
  | .fp6Ld a b imm => Sys2Proof.Machine.execFp6Ld a b imm s
  | .fp6St a b imm => Sys2Proof.Machine.execFp6St a b imm s
  | .fp6Li a imm => Sys2Proof.Machine.execFp6Li a imm s
  | .fp6Mov a b => Sys2Proof.Machine.execFp6Mov a b s
  | .fp6Add a b c => Sys2Proof.Machine.execFp6Add a b c s
  | .fp6Sub a b c => Sys2Proof.Machine.execFp6Sub a b c s
  | .fp6Neg a b => Sys2Proof.Machine.execFp6Neg a b s
  | .fp6Mul a b c => Sys2Proof.Machine.execFp6Mul a b c s
  | .fp6Sqr a b => Sys2Proof.Machine.execFp6Sqr a b s
  | .fp6Cube a b => Sys2Proof.Machine.execFp6Cube a b s
  | .fp6Halve a b => Sys2Proof.Machine.execFp6Halve a b s
  | .fp6Scale a b c => Sys2Proof.Machine.execFp6Scale a b c s
  | .fp6Pow a b c => Sys2Proof.Machine.execFp6Pow a b c s
  | .fp6Inv a b => Sys2Proof.Machine.execFp6Inv a b s
  | .fp6Div a b c => Sys2Proof.Machine.execFp6Div a b c s
  | .fp6Eq b c => Sys2Proof.Machine.execFp6Eq b c s
  | .fp6Iszero b => Sys2Proof.Machine.execFp6Iszero b s
  | .fp6Isone b => Sys2Proof.Machine.execFp6Isone b s
  | .fp6Pack a b c d => Sys2Proof.Machine.execFp6Pack a b c d s
  | .fp6Get a b fn => Sys2Proof.Machine.execFp6Get a b fn s
  | .fp12Ld a b imm => Sys2Proof.Machine.execFp12Ld a b imm s
  | .fp12St a b imm => Sys2Proof.Machine.execFp12St a b imm s
  | .fp12Li a imm => Sys2Proof.Machine.execFp12Li a imm s
  | .fp12Mov a b => Sys2Proof.Machine.execFp12Mov a b s
  | .fp12Add a b c => Sys2Proof.Machine.execFp12Add a b c s
  | .fp12Sub a b c => Sys2Proof.Machine.execFp12Sub a b c s
  | .fp12Neg a b => Sys2Proof.Machine.execFp12Neg a b s
  | .fp12Mul a b c => Sys2Proof.Machine.execFp12Mul a b c s
  | .fp12Sqr a b => Sys2Proof.Machine.execFp12Sqr a b s
  | .fp12Cube a b => Sys2Proof.Machine.execFp12Cube a b s
  | .fp12Halve a b => Sys2Proof.Machine.execFp12Halve a b s
  | .fp12Scale a b c => Sys2Proof.Machine.execFp12Scale a b c s
  | .fp12Pow a b c => Sys2Proof.Machine.execFp12Pow a b c s
  | .fp12Inv a b => Sys2Proof.Machine.execFp12Inv a b s
  | .fp12Div a b c => Sys2Proof.Machine.execFp12Div a b c s
  | .fp12Eq b c => Sys2Proof.Machine.execFp12Eq b c s
  | .fp12Iszero b => Sys2Proof.Machine.execFp12Iszero b s
  | .fp12Isone b => Sys2Proof.Machine.execFp12Isone b s
  | .fp12Pack a b c => Sys2Proof.Machine.execFp12Pack a b c s
  | .fp12Get a b fn => Sys2Proof.Machine.execFp12Get a b fn s
  | .fp12Powp a b fn => Sys2Proof.Machine.execFp12Powp a b fn s
  | .fp12Conj a b => Sys2Proof.Machine.execFp12Conj a b s
  | .fp12Cycsqr a b => Sys2Proof.Machine.execFp12Cycsqr a b s
  | .fp12Cycpow a b c => Sys2Proof.Machine.execFp12Cycpow a b c s
  | .g1Dec a b c imm => Sys2Proof.Machine.execG1Dec a b c imm s
  | .g1Enc a b imm => Sys2Proof.Machine.execG1Enc a b imm s
  | .g1Zero a => Sys2Proof.Machine.execG1Zero a s
  | .g1Mov a b => Sys2Proof.Machine.execG1Mov a b s
  | .g1Add a b c => Sys2Proof.Machine.execG1Add a b c s
  | .g1Dbl a b => Sys2Proof.Machine.execG1Dbl a b s
  | .g1Neg a b => Sys2Proof.Machine.execG1Neg a b s
  | .g1Scale a b c => Sys2Proof.Machine.execG1Scale a b c s
  | .g1Clrcof a b => Sys2Proof.Machine.execG1Clrcof a b s
  | .g1Fromaff a b c => Sys2Proof.Machine.execG1Fromaff a b c s
  | .g1Toaff a b c => Sys2Proof.Machine.execG1Toaff a b c s
  | .g1Pack a b c d => Sys2Proof.Machine.execG1Pack a b c d s
  | .g1Get a b fn => Sys2Proof.Machine.execG1Get a b fn s
  | .g1Eq b c => Sys2Proof.Machine.execG1Eq b c s
  | .g1Iszero b => Sys2Proof.Machine.execG1Iszero b s
  | .g1Isvalid b => Sys2Proof.Machine.execG1Isvalid b s
  | .g2Dec a b c imm => Sys2Proof.Machine.execG2Dec a b c imm s
  | .g2Enc a b imm => Sys2Proof.Machine.execG2Enc a b imm s
  | .g2Zero a => Sys2Proof.Machine.execG2Zero a s
  | .g2Mov a b => Sys2Proof.Machine.execG2Mov a b s
  | .g2Add a b c => Sys2Proof.Machine.execG2Add a b c s
  | .g2Dbl a b => Sys2Proof.Machine.execG2Dbl a b s
  | .g2Neg a b => Sys2Proof.Machine.execG2Neg a b s
  | .g2Scale a b c => Sys2Proof.Machine.execG2Scale a b c s
  | .g2Clrcof a b => Sys2Proof.Machine.execG2Clrcof a b s
  | .g2Fromaff a b c => Sys2Proof.Machine.execG2Fromaff a b c s
  | .g2Toaff a b c => Sys2Proof.Machine.execG2Toaff a b c s
  | .g2Pack a b c d => Sys2Proof.Machine.execG2Pack a b c d s
  | .g2Get a b fn => Sys2Proof.Machine.execG2Get a b fn s
  | .g2Eq b c => Sys2Proof.Machine.execG2Eq b c s
  | .g2Iszero b => Sys2Proof.Machine.execG2Iszero b s
  | .g2Isvalid b => Sys2Proof.Machine.execG2Isvalid b s
  | .g2Psi a b => Sys2Proof.Machine.execG2Psi a b s
  | .g2Psi2 a b => Sys2Proof.Machine.execG2Psi2 a b s
  | .miller a b c => Sys2Proof.Machine.execMiller a b c s
  | .finalExp a b => Sys2Proof.Machine.execFinalExp a b s
  | .finalVerify b => Sys2Proof.Machine.execFinalVerify b s

end Sys2Proof.Machine
end

