-- ==== Sys2Proof/WellFormed.lean ====
section
/-! DEFINITION. Which terms of `Instr` some word spells (spec/30_encoding.md R95, R96). A register number is legal by
its type, an immediate by its width; what is left to check is the index `FN` of the six instructions that have one. -/

namespace Sys2Proof

/-- `FN` is within the instruction's maximum (R96, R100): 1 for `FP2.GET` and `FP12.GET`, 2 for `FP6.GET`, `G1.GET`
and `G2.GET`, 11 for `FP12.POWP`. -/
def Instr.wf : Instr → Bool
  | .fp2Get _ _ fn => fn.toNat ≤ 1
  | .fp6Get _ _ fn => fn.toNat ≤ 2
  | .fp12Get _ _ fn => fn.toNat ≤ 1
  | .fp12Powp _ _ fn => fn.toNat ≤ 11
  | .g1Get _ _ fn => fn.toNat ≤ 2
  | .g2Get _ _ fn => fn.toNat ≤ 2
  | .nop | .halt | .trap _ | .j _ | .bt _ | .bf _ | .banz _ _ | .jal _ _ | .jr _ | .aLi _ _ | .aAddi _ _ _
  | .kLd _ _ _ | .kSt _ _ _ | .kLi _ _ | .kMov _ _ | .kModr _ _ | .fpLd _ _ _ | .fpSt _ _ _ | .fpLi _ _
  | .fpMov _ _ | .fpAdd _ _ _ | .fpSub _ _ _ | .fpNeg _ _ | .fpMul _ _ _ | .fpSqr _ _ | .fpCube _ _
  | .fpHalve _ _ | .fpScale _ _ _ | .fpPow _ _ _ | .fpInv _ _ | .fpDiv _ _ _ | .fpSqrt _ _ | .fpEq _ _
  | .fpIszero _ | .fpIsone _ | .fp2Ld _ _ _ | .fp2St _ _ _ | .fp2Li _ _ | .fp2Mov _ _ | .fp2Add _ _ _
  | .fp2Sub _ _ _ | .fp2Neg _ _ | .fp2Mul _ _ _ | .fp2Sqr _ _ | .fp2Cube _ _ | .fp2Halve _ _ | .fp2Scale _ _ _
  | .fp2Pow _ _ _ | .fp2Inv _ _ | .fp2Div _ _ _ | .fp2Sqrt _ _ | .fp2Eq _ _ | .fp2Iszero _ | .fp2Isone _
  | .fp2Pack _ _ _ | .fp6Ld _ _ _ | .fp6St _ _ _ | .fp6Li _ _ | .fp6Mov _ _ | .fp6Add _ _ _ | .fp6Sub _ _ _
  | .fp6Neg _ _ | .fp6Mul _ _ _ | .fp6Sqr _ _ | .fp6Cube _ _ | .fp6Halve _ _ | .fp6Scale _ _ _ | .fp6Pow _ _ _
  | .fp6Inv _ _ | .fp6Div _ _ _ | .fp6Eq _ _ | .fp6Iszero _ | .fp6Isone _ | .fp6Pack _ _ _ _ | .fp12Ld _ _ _
  | .fp12St _ _ _ | .fp12Li _ _ | .fp12Mov _ _ | .fp12Add _ _ _ | .fp12Sub _ _ _ | .fp12Neg _ _ | .fp12Mul _ _ _
  | .fp12Sqr _ _ | .fp12Cube _ _ | .fp12Halve _ _ | .fp12Scale _ _ _ | .fp12Pow _ _ _ | .fp12Inv _ _
  | .fp12Div _ _ _ | .fp12Eq _ _ | .fp12Iszero _ | .fp12Isone _ | .fp12Pack _ _ _ | .fp12Conj _ _
  | .fp12Cycsqr _ _ | .fp12Cycpow _ _ _ | .g1Dec _ _ _ _ | .g1Enc _ _ _ | .g1Zero _ | .g1Mov _ _ | .g1Add _ _ _
  | .g1Dbl _ _ | .g1Neg _ _ | .g1Scale _ _ _ | .g1Clrcof _ _ | .g1Fromaff _ _ _ | .g1Toaff _ _ _
  | .g1Pack _ _ _ _ | .g1Eq _ _ | .g1Iszero _ | .g1Isvalid _ | .g2Dec _ _ _ _ | .g2Enc _ _ _ | .g2Zero _
  | .g2Mov _ _ | .g2Add _ _ _ | .g2Dbl _ _ | .g2Neg _ _ | .g2Scale _ _ _ | .g2Clrcof _ _ | .g2Fromaff _ _ _
  | .g2Toaff _ _ _ | .g2Pack _ _ _ _ | .g2Eq _ _ | .g2Iszero _ | .g2Isvalid _ | .g2Psi _ _ | .g2Psi2 _ _
  | .miller _ _ _ | .finalExp _ _ | .finalVerify _ => true

end Sys2Proof
end

