-- ==== Sys2Proof/Decode.lean ====
section
/-! DEFINITION. Decoding an instruction word (spec/30_encoding.md R90 to R103) and encoding an instruction (the
same tables read the other way, R91 to R96, R106). A word is a 32-bit number; IMEM has no byte order (R63). -/

namespace Sys2Proof

/-- Why a word is no instruction (R100, R101, R102). Every one raises `ILLEGAL` (R524). -/
inductive Illegal where
  /-- Bits 31:24 are not one of the 137 assigned opcode bytes. -/
  | unassignedOpcode
  /-- A must-be-zero bit is set, the top bit of a register field of an 8-register file among them (R95, R100). -/
  | reservedBits
  /-- `FN` is above the instruction's maximum (R96). -/
  | indexTooBig
  deriving DecidableEq, Repr

/-- The fields of a word that all four formats are made of (R91 to R94). -/
structure Fields where
  op : BitVec 8
  a : BitVec 4
  b : BitVec 4
  c : BitVec 4
  d : BitVec 4
  fn : BitVec 8
  deriving DecidableEq, Repr

/-- The fields of a word at the bit positions of R91. -/
def Fields.ofWord (w : BitVec 32) : Fields :=
  { op := w.extractLsb' 24 8, a := w.extractLsb' 20 4, b := w.extractLsb' 16 4, c := w.extractLsb' 12 4,
    d := w.extractLsb' 8 4, fn := w.extractLsb' 0 8 }

/-- The word with these fields (R91). -/
def Fields.toWord (f : Fields) : BitVec 32 := f.op ++ f.a ++ f.b ++ f.c ++ f.d ++ f.fn

/-- `word[15:0]`, the immediate of formats M and I (R92, R93, R96). -/
def Fields.imm16 (f : Fields) : BitVec 16 := f.c ++ f.d ++ f.fn

/-- `word[11:0]`, the immediate of format D (R94, R96). -/
def Fields.imm12 (f : Fields) : BitVec 12 := f.d ++ f.fn

/-- A register field of a 16-register file (R95). -/
def reg16 (x : BitVec 4) : Fin 16 := ⟨x.toNat, x.isLt⟩

/-- A register field of an 8-register file, whose top bit the row has checked (R95). -/
def reg8 (x : BitVec 4) : Fin 8 := ⟨x.toNat % 8, Nat.mod_lt _ (by decide)⟩

/-- The field that names a register of a 16-register file. -/
def field16 (i : Fin 16) : BitVec 4 := BitVec.ofNat 4 i.val

/-- The field that names a register of an 8-register file. -/
def field8 (i : Fin 8) : BitVec 4 := BitVec.ofNat 4 i.val

/-- What a row of the table says of one 4-bit field (R95, R100). -/
inductive Use where
  /-- Unused: must be zero. -/
  | zero
  /-- A register of an 8-register file: the top bit must be zero. -/
  | low8
  /-- A register of a 16-register file, or immediate bits: every value is legal. -/
  | any
  deriving DecidableEq, Repr

/-- Whether a field's value agrees with its use. -/
def Use.ok : Use → BitVec 4 → Bool
  | .zero, x => x == 0
  | .low8, x => x.toNat < 8
  | .any, _ => true

/-- The bits of a field that the row's mask compares. -/
def Use.mask : Use → BitVec 4
  | .zero => 0xF
  | .low8 => 0x8
  | .any => 0x0

/-- One row of R106: the opcode byte, the use of the four nibbles below it, how many low bits of `FN` are free and
its maximum, and the instruction its fields spell. -/
structure Row where
  opcode : Nat
  a : Use
  b : Use
  c : Use
  d : Use
  fnFree : Nat
  fnMax : Nat
  build : Fields → Instr

/-- The row's `mask` of R106. -/
def Row.mask (r : Row) : BitVec 32 :=
  Fields.toWord { op := 0xFF, a := r.a.mask, b := r.b.mask, c := r.c.mask, d := r.d.mask,
                  fn := BitVec.ofNat 8 (256 - 2 ^ r.fnFree) }

/-- Every compared bit below the opcode byte is zero: `(w and mask) = match` of R102. -/
def Row.fixedOk (r : Row) (f : Fields) : Bool :=
  r.a.ok f.a && r.b.ok f.b && r.c.ok f.c && r.d.ok f.d && f.fn.toNat < 2 ^ r.fnFree

/-- A row of format R with no index (R91). -/
def rowR (opcode : Nat) (a b c d : Use) (build : Fields → Instr) : Row :=
  { opcode := opcode, a := a, b := b, c := c, d := d, fnFree := 0, fnMax := 0, build := build }

/-- A row of format R with an index `FN` (R91, R96). -/
def rowN (opcode : Nat) (a b : Use) (fnFree fnMax : Nat) (build : Fields → Instr) : Row :=
  { opcode := opcode, a := a, b := b, c := .zero, d := .zero, fnFree := fnFree, fnMax := fnMax, build := build }

/-- A row of format M, or of format I with an immediate (R92, R93). -/
def rowI (opcode : Nat) (a b : Use) (build : Fields → Instr) : Row :=
  { opcode := opcode, a := a, b := b, c := .any, d := .any, fnFree := 8, fnMax := 255, build := build }

/-- A row of format D (R94). -/
def rowD (opcode : Nat) (a b c : Use) (build : Fields → Instr) : Row :=
  { opcode := opcode, a := a, b := b, c := c, d := .any, fnFree := 8, fnMax := 255, build := build }

/-- The rows of R106: sequencer and address registers. -/
def opcodeRows_control : List Row := [
  rowR 0x01 .zero .zero .zero .zero (fun _ => .nop),
  rowR 0x02 .zero .zero .zero .zero (fun _ => .halt),
  rowI 0x03 .zero .zero (fun f => .trap f.imm16),
  rowI 0x04 .zero .zero (fun f => .j f.imm16),
  rowI 0x05 .zero .zero (fun f => .bt f.imm16),
  rowI 0x06 .zero .zero (fun f => .bf f.imm16),
  rowI 0x07 .low8 .zero (fun f => .banz (reg8 f.a) f.imm16),
  rowI 0x08 .low8 .zero (fun f => .jal (reg8 f.a) f.imm16),
  rowR 0x09 .low8 .zero .zero .zero (fun f => .jr (reg8 f.a)),
  rowI 0x0A .low8 .zero (fun f => .aLi (reg8 f.a) f.imm16),
  rowI 0x0B .low8 .low8 (fun f => .aAddi (reg8 f.a) (reg8 f.b) f.imm16)]

/-- The rows of R106: integer registers. -/
def opcodeRows_integer : List Row := [
  rowI 0x90 .low8 .low8 (fun f => .kLd (reg8 f.a) (reg8 f.b) f.imm16),
  rowI 0x91 .low8 .low8 (fun f => .kSt (reg8 f.a) (reg8 f.b) f.imm16),
  rowI 0x92 .low8 .zero (fun f => .kLi (reg8 f.a) f.imm16),
  rowR 0x93 .low8 .low8 .zero .zero (fun f => .kMov (reg8 f.a) (reg8 f.b)),
  rowR 0x94 .low8 .low8 .zero .zero (fun f => .kModr (reg8 f.a) (reg8 f.b))]

/-- The rows of R106: Fp. -/
def opcodeRows_fp : List Row := [
  rowI 0x10 .any .low8 (fun f => .fpLd (reg16 f.a) (reg8 f.b) f.imm16),
  rowI 0x11 .any .low8 (fun f => .fpSt (reg16 f.a) (reg8 f.b) f.imm16),
  rowI 0x12 .any .zero (fun f => .fpLi (reg16 f.a) f.imm16),
  rowR 0x13 .any .any .zero .zero (fun f => .fpMov (reg16 f.a) (reg16 f.b)),
  rowR 0x14 .any .any .any .zero (fun f => .fpAdd (reg16 f.a) (reg16 f.b) (reg16 f.c)),
  rowR 0x15 .any .any .any .zero (fun f => .fpSub (reg16 f.a) (reg16 f.b) (reg16 f.c)),
  rowR 0x16 .any .any .zero .zero (fun f => .fpNeg (reg16 f.a) (reg16 f.b)),
  rowR 0x17 .any .any .any .zero (fun f => .fpMul (reg16 f.a) (reg16 f.b) (reg16 f.c)),
  rowR 0x18 .any .any .zero .zero (fun f => .fpSqr (reg16 f.a) (reg16 f.b)),
  rowR 0x19 .any .any .zero .zero (fun f => .fpCube (reg16 f.a) (reg16 f.b)),
  rowR 0x1A .any .any .zero .zero (fun f => .fpHalve (reg16 f.a) (reg16 f.b)),
  rowR 0x1B .any .any .low8 .zero (fun f => .fpScale (reg16 f.a) (reg16 f.b) (reg8 f.c)),
  rowR 0x1C .any .any .low8 .zero (fun f => .fpPow (reg16 f.a) (reg16 f.b) (reg8 f.c)),
  rowR 0x1D .any .any .zero .zero (fun f => .fpInv (reg16 f.a) (reg16 f.b)),
  rowR 0x1E .any .any .any .zero (fun f => .fpDiv (reg16 f.a) (reg16 f.b) (reg16 f.c)),
  rowR 0x1F .any .any .zero .zero (fun f => .fpSqrt (reg16 f.a) (reg16 f.b)),
  rowR 0x20 .zero .any .any .zero (fun f => .fpEq (reg16 f.b) (reg16 f.c)),
  rowR 0x21 .zero .any .zero .zero (fun f => .fpIszero (reg16 f.b)),
  rowR 0x22 .zero .any .zero .zero (fun f => .fpIsone (reg16 f.b))]

/-- The rows of R106: Fp2. -/
def opcodeRows_fp2 : List Row := [
  rowI 0x30 .any .low8 (fun f => .fp2Ld (reg16 f.a) (reg8 f.b) f.imm16),
  rowI 0x31 .any .low8 (fun f => .fp2St (reg16 f.a) (reg8 f.b) f.imm16),
  rowI 0x32 .any .zero (fun f => .fp2Li (reg16 f.a) f.imm16),
  rowR 0x33 .any .any .zero .zero (fun f => .fp2Mov (reg16 f.a) (reg16 f.b)),
  rowR 0x34 .any .any .any .zero (fun f => .fp2Add (reg16 f.a) (reg16 f.b) (reg16 f.c)),
  rowR 0x35 .any .any .any .zero (fun f => .fp2Sub (reg16 f.a) (reg16 f.b) (reg16 f.c)),
  rowR 0x36 .any .any .zero .zero (fun f => .fp2Neg (reg16 f.a) (reg16 f.b)),
  rowR 0x37 .any .any .any .zero (fun f => .fp2Mul (reg16 f.a) (reg16 f.b) (reg16 f.c)),
  rowR 0x38 .any .any .zero .zero (fun f => .fp2Sqr (reg16 f.a) (reg16 f.b)),
  rowR 0x39 .any .any .zero .zero (fun f => .fp2Cube (reg16 f.a) (reg16 f.b)),
  rowR 0x3A .any .any .zero .zero (fun f => .fp2Halve (reg16 f.a) (reg16 f.b)),
  rowR 0x3B .any .any .low8 .zero (fun f => .fp2Scale (reg16 f.a) (reg16 f.b) (reg8 f.c)),
  rowR 0x3C .any .any .low8 .zero (fun f => .fp2Pow (reg16 f.a) (reg16 f.b) (reg8 f.c)),
  rowR 0x3D .any .any .zero .zero (fun f => .fp2Inv (reg16 f.a) (reg16 f.b)),
  rowR 0x3E .any .any .any .zero (fun f => .fp2Div (reg16 f.a) (reg16 f.b) (reg16 f.c)),
  rowR 0x3F .any .any .zero .zero (fun f => .fp2Sqrt (reg16 f.a) (reg16 f.b)),
  rowR 0x40 .zero .any .any .zero (fun f => .fp2Eq (reg16 f.b) (reg16 f.c)),
  rowR 0x41 .zero .any .zero .zero (fun f => .fp2Iszero (reg16 f.b)),
  rowR 0x42 .zero .any .zero .zero (fun f => .fp2Isone (reg16 f.b)),
  rowR 0x43 .any .any .any .zero (fun f => .fp2Pack (reg16 f.a) (reg16 f.b) (reg16 f.c)),
  rowN 0x44 .any .any 1 1 (fun f => .fp2Get (reg16 f.a) (reg16 f.b) f.fn)]

/-- The rows of R106: Fp6. -/
def opcodeRows_fp6 : List Row := [
  rowI 0x50 .low8 .low8 (fun f => .fp6Ld (reg8 f.a) (reg8 f.b) f.imm16),
  rowI 0x51 .low8 .low8 (fun f => .fp6St (reg8 f.a) (reg8 f.b) f.imm16),
  rowI 0x52 .low8 .zero (fun f => .fp6Li (reg8 f.a) f.imm16),
  rowR 0x53 .low8 .low8 .zero .zero (fun f => .fp6Mov (reg8 f.a) (reg8 f.b)),
  rowR 0x54 .low8 .low8 .low8 .zero (fun f => .fp6Add (reg8 f.a) (reg8 f.b) (reg8 f.c)),
  rowR 0x55 .low8 .low8 .low8 .zero (fun f => .fp6Sub (reg8 f.a) (reg8 f.b) (reg8 f.c)),
  rowR 0x56 .low8 .low8 .zero .zero (fun f => .fp6Neg (reg8 f.a) (reg8 f.b)),
  rowR 0x57 .low8 .low8 .low8 .zero (fun f => .fp6Mul (reg8 f.a) (reg8 f.b) (reg8 f.c)),
  rowR 0x58 .low8 .low8 .zero .zero (fun f => .fp6Sqr (reg8 f.a) (reg8 f.b)),
  rowR 0x59 .low8 .low8 .zero .zero (fun f => .fp6Cube (reg8 f.a) (reg8 f.b)),
  rowR 0x5A .low8 .low8 .zero .zero (fun f => .fp6Halve (reg8 f.a) (reg8 f.b)),
  rowR 0x5B .low8 .low8 .low8 .zero (fun f => .fp6Scale (reg8 f.a) (reg8 f.b) (reg8 f.c)),
  rowR 0x5C .low8 .low8 .low8 .zero (fun f => .fp6Pow (reg8 f.a) (reg8 f.b) (reg8 f.c)),
  rowR 0x5D .low8 .low8 .zero .zero (fun f => .fp6Inv (reg8 f.a) (reg8 f.b)),
  rowR 0x5E .low8 .low8 .low8 .zero (fun f => .fp6Div (reg8 f.a) (reg8 f.b) (reg8 f.c)),
  rowR 0x60 .zero .low8 .low8 .zero (fun f => .fp6Eq (reg8 f.b) (reg8 f.c)),
  rowR 0x61 .zero .low8 .zero .zero (fun f => .fp6Iszero (reg8 f.b)),
  rowR 0x62 .zero .low8 .zero .zero (fun f => .fp6Isone (reg8 f.b)),
  rowR 0x63 .low8 .any .any .any (fun f => .fp6Pack (reg8 f.a) (reg16 f.b) (reg16 f.c) (reg16 f.d)),
  rowN 0x64 .any .low8 2 2 (fun f => .fp6Get (reg16 f.a) (reg8 f.b) f.fn)]

/-- The rows of R106: Fp12. -/
def opcodeRows_fp12 : List Row := [
  rowI 0x70 .low8 .low8 (fun f => .fp12Ld (reg8 f.a) (reg8 f.b) f.imm16),
  rowI 0x71 .low8 .low8 (fun f => .fp12St (reg8 f.a) (reg8 f.b) f.imm16),
  rowI 0x72 .low8 .zero (fun f => .fp12Li (reg8 f.a) f.imm16),
  rowR 0x73 .low8 .low8 .zero .zero (fun f => .fp12Mov (reg8 f.a) (reg8 f.b)),
  rowR 0x74 .low8 .low8 .low8 .zero (fun f => .fp12Add (reg8 f.a) (reg8 f.b) (reg8 f.c)),
  rowR 0x75 .low8 .low8 .low8 .zero (fun f => .fp12Sub (reg8 f.a) (reg8 f.b) (reg8 f.c)),
  rowR 0x76 .low8 .low8 .zero .zero (fun f => .fp12Neg (reg8 f.a) (reg8 f.b)),
  rowR 0x77 .low8 .low8 .low8 .zero (fun f => .fp12Mul (reg8 f.a) (reg8 f.b) (reg8 f.c)),
  rowR 0x78 .low8 .low8 .zero .zero (fun f => .fp12Sqr (reg8 f.a) (reg8 f.b)),
  rowR 0x79 .low8 .low8 .zero .zero (fun f => .fp12Cube (reg8 f.a) (reg8 f.b)),
  rowR 0x7A .low8 .low8 .zero .zero (fun f => .fp12Halve (reg8 f.a) (reg8 f.b)),
  rowR 0x7B .low8 .low8 .low8 .zero (fun f => .fp12Scale (reg8 f.a) (reg8 f.b) (reg8 f.c)),
  rowR 0x7C .low8 .low8 .low8 .zero (fun f => .fp12Pow (reg8 f.a) (reg8 f.b) (reg8 f.c)),
  rowR 0x7D .low8 .low8 .zero .zero (fun f => .fp12Inv (reg8 f.a) (reg8 f.b)),
  rowR 0x7E .low8 .low8 .low8 .zero (fun f => .fp12Div (reg8 f.a) (reg8 f.b) (reg8 f.c)),
  rowR 0x80 .zero .low8 .low8 .zero (fun f => .fp12Eq (reg8 f.b) (reg8 f.c)),
  rowR 0x81 .zero .low8 .zero .zero (fun f => .fp12Iszero (reg8 f.b)),
  rowR 0x82 .zero .low8 .zero .zero (fun f => .fp12Isone (reg8 f.b)),
  rowR 0x83 .low8 .low8 .low8 .zero (fun f => .fp12Pack (reg8 f.a) (reg8 f.b) (reg8 f.c)),
  rowN 0x84 .low8 .low8 1 1 (fun f => .fp12Get (reg8 f.a) (reg8 f.b) f.fn),
  rowN 0x85 .low8 .low8 4 11 (fun f => .fp12Powp (reg8 f.a) (reg8 f.b) f.fn),
  rowR 0x86 .low8 .low8 .zero .zero (fun f => .fp12Conj (reg8 f.a) (reg8 f.b)),
  rowR 0x87 .low8 .low8 .zero .zero (fun f => .fp12Cycsqr (reg8 f.a) (reg8 f.b)),
  rowR 0x88 .low8 .low8 .low8 .zero (fun f => .fp12Cycpow (reg8 f.a) (reg8 f.b) (reg8 f.c))]

/-- The rows of R106: G1. -/
def opcodeRows_g1 : List Row := [
  rowD 0xA0 .low8 .low8 .low8 (fun f => .g1Dec (reg8 f.a) (reg8 f.b) (reg8 f.c) f.imm12),
  rowI 0xA1 .low8 .low8 (fun f => .g1Enc (reg8 f.a) (reg8 f.b) f.imm16),
  rowR 0xA2 .low8 .zero .zero .zero (fun f => .g1Zero (reg8 f.a)),
  rowR 0xA3 .low8 .low8 .zero .zero (fun f => .g1Mov (reg8 f.a) (reg8 f.b)),
  rowR 0xA4 .low8 .low8 .low8 .zero (fun f => .g1Add (reg8 f.a) (reg8 f.b) (reg8 f.c)),
  rowR 0xA5 .low8 .low8 .zero .zero (fun f => .g1Dbl (reg8 f.a) (reg8 f.b)),
  rowR 0xA6 .low8 .low8 .zero .zero (fun f => .g1Neg (reg8 f.a) (reg8 f.b)),
  rowR 0xA7 .low8 .low8 .low8 .zero (fun f => .g1Scale (reg8 f.a) (reg8 f.b) (reg8 f.c)),
  rowR 0xA8 .low8 .low8 .zero .zero (fun f => .g1Clrcof (reg8 f.a) (reg8 f.b)),
  rowR 0xA9 .low8 .any .any .zero (fun f => .g1Fromaff (reg8 f.a) (reg16 f.b) (reg16 f.c)),
  rowR 0xAA .any .low8 .any .zero (fun f => .g1Toaff (reg16 f.a) (reg8 f.b) (reg16 f.c)),
  rowR 0xAB .low8 .any .any .any (fun f => .g1Pack (reg8 f.a) (reg16 f.b) (reg16 f.c) (reg16 f.d)),
  rowN 0xAC .any .low8 2 2 (fun f => .g1Get (reg16 f.a) (reg8 f.b) f.fn),
  rowR 0xAD .zero .low8 .low8 .zero (fun f => .g1Eq (reg8 f.b) (reg8 f.c)),
  rowR 0xAE .zero .low8 .zero .zero (fun f => .g1Iszero (reg8 f.b)),
  rowR 0xAF .zero .low8 .zero .zero (fun f => .g1Isvalid (reg8 f.b))]

/-- The rows of R106: G2. -/
def opcodeRows_g2 : List Row := [
  rowD 0xC0 .low8 .low8 .low8 (fun f => .g2Dec (reg8 f.a) (reg8 f.b) (reg8 f.c) f.imm12),
  rowI 0xC1 .low8 .low8 (fun f => .g2Enc (reg8 f.a) (reg8 f.b) f.imm16),
  rowR 0xC2 .low8 .zero .zero .zero (fun f => .g2Zero (reg8 f.a)),
  rowR 0xC3 .low8 .low8 .zero .zero (fun f => .g2Mov (reg8 f.a) (reg8 f.b)),
  rowR 0xC4 .low8 .low8 .low8 .zero (fun f => .g2Add (reg8 f.a) (reg8 f.b) (reg8 f.c)),
  rowR 0xC5 .low8 .low8 .zero .zero (fun f => .g2Dbl (reg8 f.a) (reg8 f.b)),
  rowR 0xC6 .low8 .low8 .zero .zero (fun f => .g2Neg (reg8 f.a) (reg8 f.b)),
  rowR 0xC7 .low8 .low8 .low8 .zero (fun f => .g2Scale (reg8 f.a) (reg8 f.b) (reg8 f.c)),
  rowR 0xC8 .low8 .low8 .zero .zero (fun f => .g2Clrcof (reg8 f.a) (reg8 f.b)),
  rowR 0xC9 .low8 .any .any .zero (fun f => .g2Fromaff (reg8 f.a) (reg16 f.b) (reg16 f.c)),
  rowR 0xCA .any .low8 .any .zero (fun f => .g2Toaff (reg16 f.a) (reg8 f.b) (reg16 f.c)),
  rowR 0xCB .low8 .any .any .any (fun f => .g2Pack (reg8 f.a) (reg16 f.b) (reg16 f.c) (reg16 f.d)),
  rowN 0xCC .any .low8 2 2 (fun f => .g2Get (reg16 f.a) (reg8 f.b) f.fn),
  rowR 0xCD .zero .low8 .low8 .zero (fun f => .g2Eq (reg8 f.b) (reg8 f.c)),
  rowR 0xCE .zero .low8 .zero .zero (fun f => .g2Iszero (reg8 f.b)),
  rowR 0xCF .zero .low8 .zero .zero (fun f => .g2Isvalid (reg8 f.b)),
  rowR 0xD0 .low8 .low8 .zero .zero (fun f => .g2Psi (reg8 f.a) (reg8 f.b)),
  rowR 0xD1 .low8 .low8 .zero .zero (fun f => .g2Psi2 (reg8 f.a) (reg8 f.b))]

/-- The rows of R106: pairing. -/
def opcodeRows_pairing : List Row := [
  rowR 0xE0 .low8 .low8 .low8 .zero (fun f => .miller (reg8 f.a) (reg8 f.b) (reg8 f.c)),
  rowR 0xE1 .low8 .low8 .zero .zero (fun f => .finalExp (reg8 f.a) (reg8 f.b)),
  rowR 0xE2 .zero .low8 .zero .zero (fun f => .finalVerify (reg8 f.b))]

/-- The 137 rows of R106. -/
def opcodeTable : List Row :=
  opcodeRows_control ++ opcodeRows_integer ++ opcodeRows_fp ++ opcodeRows_fp2 ++ opcodeRows_fp6 ++ opcodeRows_fp12 ++ opcodeRows_g1 ++ opcodeRows_g2 ++ opcodeRows_pairing

/-- Decoding, the procedure of R102: the row of the opcode byte, then its mask, then its maximum for `FN`. -/
def decode (w : BitVec 32) : Except Illegal Instr :=
  match opcodeTable.find? (fun r => r.opcode == (Fields.ofWord w).op.toNat) with
  | none => .error .unassignedOpcode
  | some r =>
    if r.fixedOk (Fields.ofWord w) = false then .error .reservedBits
    else if r.fnMax < (Fields.ofWord w).fn.toNat then .error .indexTooBig
    else .ok (r.build (Fields.ofWord w))

/-- The fields of a format R word (R91). -/
def fieldsR (op : BitVec 8) (a b c d : BitVec 4) (fn : BitVec 8) : Fields :=
  { op := op, a := a, b := b, c := c, d := d, fn := fn }

/-- The fields of a format M or I word (R92, R93). -/
def fieldsI (op : BitVec 8) (a b : BitVec 4) (imm : BitVec 16) : Fields :=
  { op := op, a := a, b := b, c := imm.extractLsb' 12 4, d := imm.extractLsb' 8 4, fn := imm.extractLsb' 0 8 }

/-- The fields of a format D word (R94). -/
def fieldsD (op : BitVec 8) (a b c : BitVec 4) (imm : BitVec 12) : Fields :=
  { op := op, a := a, b := b, c := c, d := imm.extractLsb' 8 4, fn := imm.extractLsb' 0 8 }

/-- The fields of an instruction (R106). -/
def encodeFields : Instr → Fields
  | .nop => fieldsR 0x01 0 0 0 0 0
  | .halt => fieldsR 0x02 0 0 0 0 0
  | .trap imm => fieldsI 0x03 0 0 imm
  | .j off => fieldsI 0x04 0 0 off
  | .bt off => fieldsI 0x05 0 0 off
  | .bf off => fieldsI 0x06 0 0 off
  | .banz a off => fieldsI 0x07 (field8 a) 0 off
  | .jal a off => fieldsI 0x08 (field8 a) 0 off
  | .jr a => fieldsR 0x09 (field8 a) 0 0 0 0
  | .aLi a imm => fieldsI 0x0A (field8 a) 0 imm
  | .aAddi a b imm => fieldsI 0x0B (field8 a) (field8 b) imm
  | .kLd a b imm => fieldsI 0x90 (field8 a) (field8 b) imm
  | .kSt a b imm => fieldsI 0x91 (field8 a) (field8 b) imm
  | .kLi a imm => fieldsI 0x92 (field8 a) 0 imm
  | .kMov a b => fieldsR 0x93 (field8 a) (field8 b) 0 0 0
  | .kModr a b => fieldsR 0x94 (field8 a) (field8 b) 0 0 0
  | .fpLd a b imm => fieldsI 0x10 (field16 a) (field8 b) imm
  | .fpSt a b imm => fieldsI 0x11 (field16 a) (field8 b) imm
  | .fpLi a imm => fieldsI 0x12 (field16 a) 0 imm
  | .fpMov a b => fieldsR 0x13 (field16 a) (field16 b) 0 0 0
  | .fpAdd a b c => fieldsR 0x14 (field16 a) (field16 b) (field16 c) 0 0
  | .fpSub a b c => fieldsR 0x15 (field16 a) (field16 b) (field16 c) 0 0
  | .fpNeg a b => fieldsR 0x16 (field16 a) (field16 b) 0 0 0
  | .fpMul a b c => fieldsR 0x17 (field16 a) (field16 b) (field16 c) 0 0
  | .fpSqr a b => fieldsR 0x18 (field16 a) (field16 b) 0 0 0
  | .fpCube a b => fieldsR 0x19 (field16 a) (field16 b) 0 0 0
  | .fpHalve a b => fieldsR 0x1A (field16 a) (field16 b) 0 0 0
  | .fpScale a b c => fieldsR 0x1B (field16 a) (field16 b) (field8 c) 0 0
  | .fpPow a b c => fieldsR 0x1C (field16 a) (field16 b) (field8 c) 0 0
  | .fpInv a b => fieldsR 0x1D (field16 a) (field16 b) 0 0 0
  | .fpDiv a b c => fieldsR 0x1E (field16 a) (field16 b) (field16 c) 0 0
  | .fpSqrt a b => fieldsR 0x1F (field16 a) (field16 b) 0 0 0
  | .fpEq b c => fieldsR 0x20 0 (field16 b) (field16 c) 0 0
  | .fpIszero b => fieldsR 0x21 0 (field16 b) 0 0 0
  | .fpIsone b => fieldsR 0x22 0 (field16 b) 0 0 0
  | .fp2Ld a b imm => fieldsI 0x30 (field16 a) (field8 b) imm
  | .fp2St a b imm => fieldsI 0x31 (field16 a) (field8 b) imm
  | .fp2Li a imm => fieldsI 0x32 (field16 a) 0 imm
  | .fp2Mov a b => fieldsR 0x33 (field16 a) (field16 b) 0 0 0
  | .fp2Add a b c => fieldsR 0x34 (field16 a) (field16 b) (field16 c) 0 0
  | .fp2Sub a b c => fieldsR 0x35 (field16 a) (field16 b) (field16 c) 0 0
  | .fp2Neg a b => fieldsR 0x36 (field16 a) (field16 b) 0 0 0
  | .fp2Mul a b c => fieldsR 0x37 (field16 a) (field16 b) (field16 c) 0 0
  | .fp2Sqr a b => fieldsR 0x38 (field16 a) (field16 b) 0 0 0
  | .fp2Cube a b => fieldsR 0x39 (field16 a) (field16 b) 0 0 0
  | .fp2Halve a b => fieldsR 0x3A (field16 a) (field16 b) 0 0 0
  | .fp2Scale a b c => fieldsR 0x3B (field16 a) (field16 b) (field8 c) 0 0
  | .fp2Pow a b c => fieldsR 0x3C (field16 a) (field16 b) (field8 c) 0 0
  | .fp2Inv a b => fieldsR 0x3D (field16 a) (field16 b) 0 0 0
  | .fp2Div a b c => fieldsR 0x3E (field16 a) (field16 b) (field16 c) 0 0
  | .fp2Sqrt a b => fieldsR 0x3F (field16 a) (field16 b) 0 0 0
  | .fp2Eq b c => fieldsR 0x40 0 (field16 b) (field16 c) 0 0
  | .fp2Iszero b => fieldsR 0x41 0 (field16 b) 0 0 0
  | .fp2Isone b => fieldsR 0x42 0 (field16 b) 0 0 0
  | .fp2Pack a b c => fieldsR 0x43 (field16 a) (field16 b) (field16 c) 0 0
  | .fp2Get a b fn => fieldsR 0x44 (field16 a) (field16 b) 0 0 fn
  | .fp6Ld a b imm => fieldsI 0x50 (field8 a) (field8 b) imm
  | .fp6St a b imm => fieldsI 0x51 (field8 a) (field8 b) imm
  | .fp6Li a imm => fieldsI 0x52 (field8 a) 0 imm
  | .fp6Mov a b => fieldsR 0x53 (field8 a) (field8 b) 0 0 0
  | .fp6Add a b c => fieldsR 0x54 (field8 a) (field8 b) (field8 c) 0 0
  | .fp6Sub a b c => fieldsR 0x55 (field8 a) (field8 b) (field8 c) 0 0
  | .fp6Neg a b => fieldsR 0x56 (field8 a) (field8 b) 0 0 0
  | .fp6Mul a b c => fieldsR 0x57 (field8 a) (field8 b) (field8 c) 0 0
  | .fp6Sqr a b => fieldsR 0x58 (field8 a) (field8 b) 0 0 0
  | .fp6Cube a b => fieldsR 0x59 (field8 a) (field8 b) 0 0 0
  | .fp6Halve a b => fieldsR 0x5A (field8 a) (field8 b) 0 0 0
  | .fp6Scale a b c => fieldsR 0x5B (field8 a) (field8 b) (field8 c) 0 0
  | .fp6Pow a b c => fieldsR 0x5C (field8 a) (field8 b) (field8 c) 0 0
  | .fp6Inv a b => fieldsR 0x5D (field8 a) (field8 b) 0 0 0
  | .fp6Div a b c => fieldsR 0x5E (field8 a) (field8 b) (field8 c) 0 0
  | .fp6Eq b c => fieldsR 0x60 0 (field8 b) (field8 c) 0 0
  | .fp6Iszero b => fieldsR 0x61 0 (field8 b) 0 0 0
  | .fp6Isone b => fieldsR 0x62 0 (field8 b) 0 0 0
  | .fp6Pack a b c d => fieldsR 0x63 (field8 a) (field16 b) (field16 c) (field16 d) 0
  | .fp6Get a b fn => fieldsR 0x64 (field16 a) (field8 b) 0 0 fn
  | .fp12Ld a b imm => fieldsI 0x70 (field8 a) (field8 b) imm
  | .fp12St a b imm => fieldsI 0x71 (field8 a) (field8 b) imm
  | .fp12Li a imm => fieldsI 0x72 (field8 a) 0 imm
  | .fp12Mov a b => fieldsR 0x73 (field8 a) (field8 b) 0 0 0
  | .fp12Add a b c => fieldsR 0x74 (field8 a) (field8 b) (field8 c) 0 0
  | .fp12Sub a b c => fieldsR 0x75 (field8 a) (field8 b) (field8 c) 0 0
  | .fp12Neg a b => fieldsR 0x76 (field8 a) (field8 b) 0 0 0
  | .fp12Mul a b c => fieldsR 0x77 (field8 a) (field8 b) (field8 c) 0 0
  | .fp12Sqr a b => fieldsR 0x78 (field8 a) (field8 b) 0 0 0
  | .fp12Cube a b => fieldsR 0x79 (field8 a) (field8 b) 0 0 0
  | .fp12Halve a b => fieldsR 0x7A (field8 a) (field8 b) 0 0 0
  | .fp12Scale a b c => fieldsR 0x7B (field8 a) (field8 b) (field8 c) 0 0
  | .fp12Pow a b c => fieldsR 0x7C (field8 a) (field8 b) (field8 c) 0 0
  | .fp12Inv a b => fieldsR 0x7D (field8 a) (field8 b) 0 0 0
  | .fp12Div a b c => fieldsR 0x7E (field8 a) (field8 b) (field8 c) 0 0
  | .fp12Eq b c => fieldsR 0x80 0 (field8 b) (field8 c) 0 0
  | .fp12Iszero b => fieldsR 0x81 0 (field8 b) 0 0 0
  | .fp12Isone b => fieldsR 0x82 0 (field8 b) 0 0 0
  | .fp12Pack a b c => fieldsR 0x83 (field8 a) (field8 b) (field8 c) 0 0
  | .fp12Get a b fn => fieldsR 0x84 (field8 a) (field8 b) 0 0 fn
  | .fp12Powp a b fn => fieldsR 0x85 (field8 a) (field8 b) 0 0 fn
  | .fp12Conj a b => fieldsR 0x86 (field8 a) (field8 b) 0 0 0
  | .fp12Cycsqr a b => fieldsR 0x87 (field8 a) (field8 b) 0 0 0
  | .fp12Cycpow a b c => fieldsR 0x88 (field8 a) (field8 b) (field8 c) 0 0
  | .g1Dec a b c imm => fieldsD 0xA0 (field8 a) (field8 b) (field8 c) imm
  | .g1Enc a b imm => fieldsI 0xA1 (field8 a) (field8 b) imm
  | .g1Zero a => fieldsR 0xA2 (field8 a) 0 0 0 0
  | .g1Mov a b => fieldsR 0xA3 (field8 a) (field8 b) 0 0 0
  | .g1Add a b c => fieldsR 0xA4 (field8 a) (field8 b) (field8 c) 0 0
  | .g1Dbl a b => fieldsR 0xA5 (field8 a) (field8 b) 0 0 0
  | .g1Neg a b => fieldsR 0xA6 (field8 a) (field8 b) 0 0 0
  | .g1Scale a b c => fieldsR 0xA7 (field8 a) (field8 b) (field8 c) 0 0
  | .g1Clrcof a b => fieldsR 0xA8 (field8 a) (field8 b) 0 0 0
  | .g1Fromaff a b c => fieldsR 0xA9 (field8 a) (field16 b) (field16 c) 0 0
  | .g1Toaff a b c => fieldsR 0xAA (field16 a) (field8 b) (field16 c) 0 0
  | .g1Pack a b c d => fieldsR 0xAB (field8 a) (field16 b) (field16 c) (field16 d) 0
  | .g1Get a b fn => fieldsR 0xAC (field16 a) (field8 b) 0 0 fn
  | .g1Eq b c => fieldsR 0xAD 0 (field8 b) (field8 c) 0 0
  | .g1Iszero b => fieldsR 0xAE 0 (field8 b) 0 0 0
  | .g1Isvalid b => fieldsR 0xAF 0 (field8 b) 0 0 0
  | .g2Dec a b c imm => fieldsD 0xC0 (field8 a) (field8 b) (field8 c) imm
  | .g2Enc a b imm => fieldsI 0xC1 (field8 a) (field8 b) imm
  | .g2Zero a => fieldsR 0xC2 (field8 a) 0 0 0 0
  | .g2Mov a b => fieldsR 0xC3 (field8 a) (field8 b) 0 0 0
  | .g2Add a b c => fieldsR 0xC4 (field8 a) (field8 b) (field8 c) 0 0
  | .g2Dbl a b => fieldsR 0xC5 (field8 a) (field8 b) 0 0 0
  | .g2Neg a b => fieldsR 0xC6 (field8 a) (field8 b) 0 0 0
  | .g2Scale a b c => fieldsR 0xC7 (field8 a) (field8 b) (field8 c) 0 0
  | .g2Clrcof a b => fieldsR 0xC8 (field8 a) (field8 b) 0 0 0
  | .g2Fromaff a b c => fieldsR 0xC9 (field8 a) (field16 b) (field16 c) 0 0
  | .g2Toaff a b c => fieldsR 0xCA (field16 a) (field8 b) (field16 c) 0 0
  | .g2Pack a b c d => fieldsR 0xCB (field8 a) (field16 b) (field16 c) (field16 d) 0
  | .g2Get a b fn => fieldsR 0xCC (field16 a) (field8 b) 0 0 fn
  | .g2Eq b c => fieldsR 0xCD 0 (field8 b) (field8 c) 0 0
  | .g2Iszero b => fieldsR 0xCE 0 (field8 b) 0 0 0
  | .g2Isvalid b => fieldsR 0xCF 0 (field8 b) 0 0 0
  | .g2Psi a b => fieldsR 0xD0 (field8 a) (field8 b) 0 0 0
  | .g2Psi2 a b => fieldsR 0xD1 (field8 a) (field8 b) 0 0 0
  | .miller a b c => fieldsR 0xE0 (field8 a) (field8 b) (field8 c) 0 0
  | .finalExp a b => fieldsR 0xE1 (field8 a) (field8 b) 0 0 0
  | .finalVerify b => fieldsR 0xE2 0 (field8 b) 0 0 0

/-- The word of an instruction (R106). -/
def encode (i : Instr) : BitVec 32 := (encodeFields i).toWord

/-- The instruction the decoder reads from the low `nbits` bits of `w`, every bit above them zero. -/
def decodeTableWord (nbits w : Nat) : Option Instr :=
  match decode (BitVec.ofNat 32 (w % 2 ^ nbits)) with
  | .ok i => some i
  | .error _ => none

end Sys2Proof
end

