-- ==== Sys2Proof/Machine/Fetch.lean ====
section
/-! DEFINITION. The first half of a sequencer step: the fetch and the decoding of spec/40_control.md R120, with the
faults of spec/60_exceptions.md R523 and R524. -/

namespace Sys2Proof.Machine

/-- The word at `pc`: `IFETCH(pc)` beyond IMEM (R120, R523). -/
def State.fetch (s : State) : Except Trap (BitVec 32) :=
  if s.sizes.imemWords ≤ s.pc.toNat then .error ⟨.ifetch, s.pc.toNat⟩ else .ok (s.imemWord s.pc.toNat)

/-- The instruction at `pc`: `ILLEGAL(w)` when the word is none (R120, R524). -/
def State.fetchInstr (s : State) : Except Trap Instr :=
  match s.fetch with
  | .error e => .error e
  | .ok w =>
    match decode w with
    | .ok i => .ok i
    | .error _ => .error ⟨.illegal, w.toNat⟩

/-- The index the next fetch reads: `pc`, or 0 where there is no word at `pc`. -/
def State.fetchIndex (s : State) : BitVec 16 := if s.pc.toNat < s.sizes.imemWords then s.pc else 0

/-- The state whose next step fetches the low `nbits` bits of `w`: RUNNING, nothing pending from the host, the word
in IMEM at `pc` (log 6). -/
def State.placeWord (s : State) (nbits w : Nat) : State :=
  ({ s with run := .running, host := [], pc := s.fetchIndex }).storeImem s.fetchIndex.toNat
    (BitVec.ofNat 32 (w % 2 ^ nbits))

end Sys2Proof.Machine
end

