-- ==== Sys2Proof/Machine/HostPort.lean ====
section
/-! DEFINITION. The host's side: the register block (spec/10_state.md R34 to R43), the two memory windows
(spec/20_memory.md R62), the `irq` line (spec/60_exceptions.md R530) and reset (spec/70_reset_and_hazards.md R560 to
R563). A host access is one atomic event between two steps of the sequencer (log 6, log 16). -/

namespace Sys2Proof.Machine

/-- The value of `STATE` (R34). -/
def RunState.code : RunState → BitVec 32
  | .idle => 0
  | .running => 1
  | .halted => 2
  | .faulted => 3

/-- The value of `STATUS` (R37). -/
def State.status (s : State) : BitVec 32 := s.run.code ||| (if s.tflag then 4 else 0)

/-- The value of `IRQ_EN` (R42). -/
def State.irqEnable (s : State) : BitVec 32 := (if s.haltIe then 1 else 0) ||| (if s.faultIe then 2 else 0)

/-- The output line `irq`, a level (R42, R530). -/
def State.irq (s : State) : Bool := (s.haltIe && s.run == .halted) || (s.faultIe && s.run == .faulted)

/-- A host read of the register at a byte offset, in every run state; `CTRL` reads 0 (R35 to R43). None at an offset
that is no register (log 8). -/
def State.hostReadReg (s : State) (offset : Nat) : Option (BitVec 32) :=
  if offset = 0x00 then some idValue
  else if offset = 0x04 then some 0
  else if offset = 0x08 then some s.status
  else if offset = 0x0C then some (s.pc.setWidth 32)
  else if offset = 0x10 then some (s.faultCause.setWidth 32)
  else if offset = 0x14 then some (s.faultPc.setWidth 32)
  else if offset = 0x18 then some s.faultInfo
  else if offset = 0x1C then some s.irqEnable
  else none

/-- Hard reset: the first column of R46. The memories hold new unspecified contents; the sizes are what they were
built with; what the host has pending is the host's (R560, log 2, log 6). -/
def State.hardReset (s : State) : State :=
  { State.resetWith s.sizes with host := s.host, draws := s.draws, epoch := s.epoch + 1 }

/-- Soft reset: the second column of R46. `IRQ_EN`, IMEM and DMEM keep their contents (R561). -/
def State.softReset (s : State) : State :=
  { State.resetWith s.sizes with
    haltIe := s.haltIe, faultIe := s.faultIe, imem := s.imem, dmem := s.dmem, host := s.host, draws := s.draws,
    epoch := s.epoch }

/-- `CTRL.START`: from IDLE and HALTED only (R34, R36, R564). -/
def State.start (s : State) : State := if s.run = .idle ∨ s.run = .halted then s.setRun .running else s

/-- A write of `CTRL`: `SRESET` alone when it is among the bits; `START` and `CLRFAULT` act in different run states,
judged before the write (R36, log 9). -/
def State.writeCtrl (s : State) (v : BitVec 32) : State :=
  if v.getLsbD 1 then s.softReset
  else if v.getLsbD 2 && s.run == .faulted then s.clearFault
  else if v.getLsbD 0 then s.start
  else s

/-- A write of `PC`, ignored in RUNNING (R38). -/
def State.writePc (s : State) (v : BitVec 32) : State := if s.run = .running then s else s.setPc (v.setWidth 16)

/-- A write of `IRQ_EN` (R42). -/
def State.writeIrqEnable (s : State) (v : BitVec 32) : State :=
  { s with haltIe := v.getLsbD 0, faultIe := v.getLsbD 1 }

/-- A host write of the register at a byte offset; the read-only ones ignore it (R35 to R43). -/
def State.hostWriteReg (s : State) (offset : Nat) (v : BitVec 32) : Result :=
  if offset = 0x04 then .next (s.writeCtrl v)
  else if offset = 0x0C then .next (s.writePc v)
  else if offset = 0x1C then .next (s.writeIrqEnable v)
  else if offset ∈ [0x00, 0x08, 0x10, 0x14, 0x18] then .next s
  else .fault (.hostRegister offset)

/-- A host write of one IMEM word, dropped in RUNNING (R60, R62, R43, U4). -/
def State.hostWriteImem (s : State) (i : Nat) (w : BitVec 32) : Result :=
  if s.run = .running then .next s
  else if i < s.sizes.imemWords then .next (s.storeImem i w)
  else .fault (.imemWindow i)

/-- A host write of consecutive DMEM bytes, dropped in RUNNING (R61, R62, R43, U4). -/
def State.hostWriteDmem (s : State) (a : Nat) (bytes : List (BitVec 8)) : Result :=
  if s.run = .running then .next s
  else if a + bytes.length ≤ s.sizes.dmemBytes then .next (s.storeDmem a bytes)
  else .fault (.dmemWindow a)

/-- What host access number `n`, a read of IMEM word `i`, returns: a free value in RUNNING (R62, U4, log 10). None
where there is no such word (log 8). -/
def State.hostReadImem (s : State) (n i : Nat) : Option (BitVec 32) :=
  if s.run = .running then some (Config.busyImemRead n i)
  else if i < s.sizes.imemWords then some (s.imemWord i) else none

/-- What host access number `n`, a read of DMEM byte `a`, returns: a free value in RUNNING (R62, U4, log 10). None
where there is no such byte (log 8). -/
def State.hostReadDmem (s : State) (n a : Nat) : Option (BitVec 8) :=
  if s.run = .running then some (Config.busyDmemRead n a)
  else if a < s.sizes.dmemBytes then some (s.dmemByte a) else none

/-- Where the platform puts host register `offset`, IMEM word `i` and DMEM byte `a` in its own address space
(R62, log 18). -/
def busAddressCsr (offset : Nat) : Nat := Config.csrBase + offset
/-- See `busAddressCsr`. -/
def busAddressImem (i : Nat) : Nat := Config.imemBase + 4 * i
/-- See `busAddressCsr`. -/
def busAddressDmem (a : Nat) : Nat := Config.dmemBase + a

/-- One action of the host on BMAP; the sequencer's turn is none (R21, R43, R62, R560, log 6). -/
def State.hostAct (s : State) : HostAction → Result
  | .turn => .next s
  | .hardReset => .next s.hardReset
  | .writeReg offset v => s.hostWriteReg offset v
  | .writeImem i w => s.hostWriteImem i w
  | .writeDmem a bytes => s.hostWriteDmem a bytes

end Sys2Proof.Machine
end

