-- ==== Sys2Proof/Machine/Step.lean ====
section
/-! DEFINITION. The step of the machine: the sequencer's (spec/40_control.md R120) and, before it, the host's pending
actions (spec/10_state.md R21, R43, log 6). -/

namespace Sys2Proof.Machine

/-- One step of the sequencer, taken only in RUNNING (R34, R120); in the other states nothing happens (log 7). -/
def State.sequencerStep (s : State) : Host.Outcome State Fault Refusal :=
  match s.run with
  | .running =>
    match s.fetchInstr with
    | .error e => .next (s.raise e)
    | .ok i => exec i s
  | .idle => .next s
  | .halted => .next s
  | .faulted => .next s

/-- One step of BMAP: the host's next pending action, or, when it gives the turn or has nothing pending, a step of
the sequencer (log 6). -/
def step (s : State) : Host.Outcome State Fault Refusal :=
  match s.host with
  | [] => s.sequencerStep
  | .turn :: rest => { s with host := rest }.sequencerStep
  | .hardReset :: rest => { s with host := rest }.hostAct .hardReset
  | .writeReg offset v :: rest => { s with host := rest }.hostAct (.writeReg offset v)
  | .writeImem i w :: rest => { s with host := rest }.hostAct (.writeImem i w)
  | .writeDmem a bytes :: rest => { s with host := rest }.hostAct (.writeDmem a bytes)

/-- The state whose next step runs the low `nbits` bits of `w` (log 6). -/
def State.withFetchWord (s : State) (nbits w : Nat) : State := s.placeWord nbits w

end Sys2Proof.Machine
end

