-- ==== Sys2Proof/Safety.lean ====
section
/-! DEFINITION. The terms the statements use: what a well-kept state is, what a fault leaves, which registers an
instruction reads and writes (spec/30_encoding.md R95, R106), and the byte pictures of values in DMEM. -/

namespace Sys2Proof.Machine

/-- The invariant of the machine: the hardwired `a0` holds 0 (R24), both memories list their cells by strictly rising
address (the model's canonical form, log 2 and log 3) and list none beyond their sizes (R60, R61), the sizes are legal
(R5), and the fault registers are zero unless a fault is recorded, when the cause is one of the codes 1 to 14 (R36,
R46, R522, R536). -/
structure State.Inv (s : State) : Prop where
  hardwired : s.a[0] = 0
  dmemForm : Memory.wf s.dmem
  imemForm : Memory.wf s.imem
  dmemSize : ∀ c ∈ s.dmem, c.1 < s.sizes.dmemBytes
  imemSize : ∀ c ∈ s.imem, c.1 < s.sizes.imemWords
  sizes : s.sizes.legal = true
  noFault : s.run ≠ .faulted → s.faultCause = 0 ∧ s.faultPc = 0 ∧ s.faultInfo = 0
  cause : s.run = .faulted → 1 ≤ s.faultCause.toNat ∧ s.faultCause.toNat ≤ 14

/-- What a fault with this cause code and information leaves of the state it was raised in (R521). -/
def State.faultedWith (s : State) (code : BitVec 8) (info : Nat) : State :=
  { s with run := .faulted, faultCause := code, faultPc := s.pc, faultInfo := BitVec.ofNat 32 info }

/-- The seven files of registers with a valid bit (R32). -/
inductive ValueFile where
  | k | f | q | s | t | g | h
  deriving DecidableEq, Repr

/-- The file code of R527. -/
def ValueFile.code : ValueFile → Nat
  | .k => 1
  | .f => 2
  | .q => 3
  | .s => 4
  | .t => 5
  | .g => 6
  | .h => 7

/-- The valid bit of a register (R32). -/
def State.isValid (s : State) : ValueFile × Nat → Bool
  | (.k, i) => s.k[i]?.any (·.valid)
  | (.f, i) => s.f[i]?.any (·.valid)
  | (.q, i) => s.q[i]?.any (·.valid)
  | (.s, i) => s.s[i]?.any (·.valid)
  | (.t, i) => s.t[i]?.any (·.valid)
  | (.g, i) => s.g[i]?.any (·.valid)
  | (.h, i) => s.h[i]?.any (·.valid)

/-- The value registers an instruction reads, in the order of the fields A, B, C, D (R95, R106). -/
def valueSources : Instr → List (ValueFile × Nat)
  | .nop => []
  | .halt => []
  | .trap _ => []
  | .j _ => []
  | .bt _ => []
  | .bf _ => []
  | .banz _ _ => []
  | .jal _ _ => []
  | .jr _ => []
  | .aLi _ _ => []
  | .aAddi _ _ _ => []
  | .kLd _ _ _ => []
  | .kSt a _ _ => [(.k, a.val)]
  | .kLi _ _ => []
  | .kMov _ b => [(.k, b.val)]
  | .kModr _ b => [(.k, b.val)]
  | .fpLd _ _ _ => []
  | .fpSt a _ _ => [(.f, a.val)]
  | .fpLi _ _ => []
  | .fpMov _ b => [(.f, b.val)]
  | .fpAdd _ b c => [(.f, b.val), (.f, c.val)]
  | .fpSub _ b c => [(.f, b.val), (.f, c.val)]
  | .fpNeg _ b => [(.f, b.val)]
  | .fpMul _ b c => [(.f, b.val), (.f, c.val)]
  | .fpSqr _ b => [(.f, b.val)]
  | .fpCube _ b => [(.f, b.val)]
  | .fpHalve _ b => [(.f, b.val)]
  | .fpScale _ b c => [(.f, b.val), (.k, c.val)]
  | .fpPow _ b c => [(.f, b.val), (.k, c.val)]
  | .fpInv _ b => [(.f, b.val)]
  | .fpDiv _ b c => [(.f, b.val), (.f, c.val)]
  | .fpSqrt _ b => [(.f, b.val)]
  | .fpEq b c => [(.f, b.val), (.f, c.val)]
  | .fpIszero b => [(.f, b.val)]
  | .fpIsone b => [(.f, b.val)]
  | .fp2Ld _ _ _ => []
  | .fp2St a _ _ => [(.q, a.val)]
  | .fp2Li _ _ => []
  | .fp2Mov _ b => [(.q, b.val)]
  | .fp2Add _ b c => [(.q, b.val), (.q, c.val)]
  | .fp2Sub _ b c => [(.q, b.val), (.q, c.val)]
  | .fp2Neg _ b => [(.q, b.val)]
  | .fp2Mul _ b c => [(.q, b.val), (.q, c.val)]
  | .fp2Sqr _ b => [(.q, b.val)]
  | .fp2Cube _ b => [(.q, b.val)]
  | .fp2Halve _ b => [(.q, b.val)]
  | .fp2Scale _ b c => [(.q, b.val), (.k, c.val)]
  | .fp2Pow _ b c => [(.q, b.val), (.k, c.val)]
  | .fp2Inv _ b => [(.q, b.val)]
  | .fp2Div _ b c => [(.q, b.val), (.q, c.val)]
  | .fp2Sqrt _ b => [(.q, b.val)]
  | .fp2Eq b c => [(.q, b.val), (.q, c.val)]
  | .fp2Iszero b => [(.q, b.val)]
  | .fp2Isone b => [(.q, b.val)]
  | .fp2Pack _ b c => [(.f, b.val), (.f, c.val)]
  | .fp2Get _ b _ => [(.q, b.val)]
  | .fp6Ld _ _ _ => []
  | .fp6St a _ _ => [(.s, a.val)]
  | .fp6Li _ _ => []
  | .fp6Mov _ b => [(.s, b.val)]
  | .fp6Add _ b c => [(.s, b.val), (.s, c.val)]
  | .fp6Sub _ b c => [(.s, b.val), (.s, c.val)]
  | .fp6Neg _ b => [(.s, b.val)]
  | .fp6Mul _ b c => [(.s, b.val), (.s, c.val)]
  | .fp6Sqr _ b => [(.s, b.val)]
  | .fp6Cube _ b => [(.s, b.val)]
  | .fp6Halve _ b => [(.s, b.val)]
  | .fp6Scale _ b c => [(.s, b.val), (.k, c.val)]
  | .fp6Pow _ b c => [(.s, b.val), (.k, c.val)]
  | .fp6Inv _ b => [(.s, b.val)]
  | .fp6Div _ b c => [(.s, b.val), (.s, c.val)]
  | .fp6Eq b c => [(.s, b.val), (.s, c.val)]
  | .fp6Iszero b => [(.s, b.val)]
  | .fp6Isone b => [(.s, b.val)]
  | .fp6Pack _ b c d => [(.q, b.val), (.q, c.val), (.q, d.val)]
  | .fp6Get _ b _ => [(.s, b.val)]
  | .fp12Ld _ _ _ => []
  | .fp12St a _ _ => [(.t, a.val)]
  | .fp12Li _ _ => []
  | .fp12Mov _ b => [(.t, b.val)]
  | .fp12Add _ b c => [(.t, b.val), (.t, c.val)]
  | .fp12Sub _ b c => [(.t, b.val), (.t, c.val)]
  | .fp12Neg _ b => [(.t, b.val)]
  | .fp12Mul _ b c => [(.t, b.val), (.t, c.val)]
  | .fp12Sqr _ b => [(.t, b.val)]
  | .fp12Cube _ b => [(.t, b.val)]
  | .fp12Halve _ b => [(.t, b.val)]
  | .fp12Scale _ b c => [(.t, b.val), (.k, c.val)]
  | .fp12Pow _ b c => [(.t, b.val), (.k, c.val)]
  | .fp12Inv _ b => [(.t, b.val)]
  | .fp12Div _ b c => [(.t, b.val), (.t, c.val)]
  | .fp12Eq b c => [(.t, b.val), (.t, c.val)]
  | .fp12Iszero b => [(.t, b.val)]
  | .fp12Isone b => [(.t, b.val)]
  | .fp12Pack _ b c => [(.s, b.val), (.s, c.val)]
  | .fp12Get _ b _ => [(.t, b.val)]
  | .fp12Powp _ b _ => [(.t, b.val)]
  | .fp12Conj _ b => [(.t, b.val)]
  | .fp12Cycsqr _ b => [(.t, b.val)]
  | .fp12Cycpow _ b c => [(.t, b.val), (.k, c.val)]
  | .g1Dec _ _ _ _ => []
  | .g1Enc a _ _ => [(.g, a.val)]
  | .g1Zero _ => []
  | .g1Mov _ b => [(.g, b.val)]
  | .g1Add _ b c => [(.g, b.val), (.g, c.val)]
  | .g1Dbl _ b => [(.g, b.val)]
  | .g1Neg _ b => [(.g, b.val)]
  | .g1Scale _ b c => [(.g, b.val), (.k, c.val)]
  | .g1Clrcof _ b => [(.g, b.val)]
  | .g1Fromaff _ b c => [(.f, b.val), (.f, c.val)]
  | .g1Toaff _ b _ => [(.g, b.val)]
  | .g1Pack _ b c d => [(.f, b.val), (.f, c.val), (.f, d.val)]
  | .g1Get _ b _ => [(.g, b.val)]
  | .g1Eq b c => [(.g, b.val), (.g, c.val)]
  | .g1Iszero b => [(.g, b.val)]
  | .g1Isvalid b => [(.g, b.val)]
  | .g2Dec _ _ _ _ => []
  | .g2Enc a _ _ => [(.h, a.val)]
  | .g2Zero _ => []
  | .g2Mov _ b => [(.h, b.val)]
  | .g2Add _ b c => [(.h, b.val), (.h, c.val)]
  | .g2Dbl _ b => [(.h, b.val)]
  | .g2Neg _ b => [(.h, b.val)]
  | .g2Scale _ b c => [(.h, b.val), (.k, c.val)]
  | .g2Clrcof _ b => [(.h, b.val)]
  | .g2Fromaff _ b c => [(.q, b.val), (.q, c.val)]
  | .g2Toaff _ b _ => [(.h, b.val)]
  | .g2Pack _ b c d => [(.q, b.val), (.q, c.val), (.q, d.val)]
  | .g2Get _ b _ => [(.h, b.val)]
  | .g2Eq b c => [(.h, b.val), (.h, c.val)]
  | .g2Iszero b => [(.h, b.val)]
  | .g2Isvalid b => [(.h, b.val)]
  | .g2Psi _ b => [(.h, b.val)]
  | .g2Psi2 _ b => [(.h, b.val)]
  | .miller _ b c => [(.g, b.val), (.h, c.val)]
  | .finalExp _ b => [(.t, b.val)]
  | .finalVerify b => [(.t, b.val)]

/-- The value registers an instruction writes (R95, R106). -/
def valueDestinations : Instr → List (ValueFile × Nat)
  | .nop => []
  | .halt => []
  | .trap _ => []
  | .j _ => []
  | .bt _ => []
  | .bf _ => []
  | .banz _ _ => []
  | .jal _ _ => []
  | .jr _ => []
  | .aLi _ _ => []
  | .aAddi _ _ _ => []
  | .kLd a _ _ => [(.k, a.val)]
  | .kSt _ _ _ => []
  | .kLi a _ => [(.k, a.val)]
  | .kMov a _ => [(.k, a.val)]
  | .kModr a _ => [(.k, a.val)]
  | .fpLd a _ _ => [(.f, a.val)]
  | .fpSt _ _ _ => []
  | .fpLi a _ => [(.f, a.val)]
  | .fpMov a _ => [(.f, a.val)]
  | .fpAdd a _ _ => [(.f, a.val)]
  | .fpSub a _ _ => [(.f, a.val)]
  | .fpNeg a _ => [(.f, a.val)]
  | .fpMul a _ _ => [(.f, a.val)]
  | .fpSqr a _ => [(.f, a.val)]
  | .fpCube a _ => [(.f, a.val)]
  | .fpHalve a _ => [(.f, a.val)]
  | .fpScale a _ _ => [(.f, a.val)]
  | .fpPow a _ _ => [(.f, a.val)]
  | .fpInv a _ => [(.f, a.val)]
  | .fpDiv a _ _ => [(.f, a.val)]
  | .fpSqrt a _ => [(.f, a.val)]
  | .fpEq _ _ => []
  | .fpIszero _ => []
  | .fpIsone _ => []
  | .fp2Ld a _ _ => [(.q, a.val)]
  | .fp2St _ _ _ => []
  | .fp2Li a _ => [(.q, a.val)]
  | .fp2Mov a _ => [(.q, a.val)]
  | .fp2Add a _ _ => [(.q, a.val)]
  | .fp2Sub a _ _ => [(.q, a.val)]
  | .fp2Neg a _ => [(.q, a.val)]
  | .fp2Mul a _ _ => [(.q, a.val)]
  | .fp2Sqr a _ => [(.q, a.val)]
  | .fp2Cube a _ => [(.q, a.val)]
  | .fp2Halve a _ => [(.q, a.val)]
  | .fp2Scale a _ _ => [(.q, a.val)]
  | .fp2Pow a _ _ => [(.q, a.val)]
  | .fp2Inv a _ => [(.q, a.val)]
  | .fp2Div a _ _ => [(.q, a.val)]
  | .fp2Sqrt a _ => [(.q, a.val)]
  | .fp2Eq _ _ => []
  | .fp2Iszero _ => []
  | .fp2Isone _ => []
  | .fp2Pack a _ _ => [(.q, a.val)]
  | .fp2Get a _ _ => [(.f, a.val)]
  | .fp6Ld a _ _ => [(.s, a.val)]
  | .fp6St _ _ _ => []
  | .fp6Li a _ => [(.s, a.val)]
  | .fp6Mov a _ => [(.s, a.val)]
  | .fp6Add a _ _ => [(.s, a.val)]
  | .fp6Sub a _ _ => [(.s, a.val)]
  | .fp6Neg a _ => [(.s, a.val)]
  | .fp6Mul a _ _ => [(.s, a.val)]
  | .fp6Sqr a _ => [(.s, a.val)]
  | .fp6Cube a _ => [(.s, a.val)]
  | .fp6Halve a _ => [(.s, a.val)]
  | .fp6Scale a _ _ => [(.s, a.val)]
  | .fp6Pow a _ _ => [(.s, a.val)]
  | .fp6Inv a _ => [(.s, a.val)]
  | .fp6Div a _ _ => [(.s, a.val)]
  | .fp6Eq _ _ => []
  | .fp6Iszero _ => []
  | .fp6Isone _ => []
  | .fp6Pack a _ _ _ => [(.s, a.val)]
  | .fp6Get a _ _ => [(.q, a.val)]
  | .fp12Ld a _ _ => [(.t, a.val)]
  | .fp12St _ _ _ => []
  | .fp12Li a _ => [(.t, a.val)]
  | .fp12Mov a _ => [(.t, a.val)]
  | .fp12Add a _ _ => [(.t, a.val)]
  | .fp12Sub a _ _ => [(.t, a.val)]
  | .fp12Neg a _ => [(.t, a.val)]
  | .fp12Mul a _ _ => [(.t, a.val)]
  | .fp12Sqr a _ => [(.t, a.val)]
  | .fp12Cube a _ => [(.t, a.val)]
  | .fp12Halve a _ => [(.t, a.val)]
  | .fp12Scale a _ _ => [(.t, a.val)]
  | .fp12Pow a _ _ => [(.t, a.val)]
  | .fp12Inv a _ => [(.t, a.val)]
  | .fp12Div a _ _ => [(.t, a.val)]
  | .fp12Eq _ _ => []
  | .fp12Iszero _ => []
  | .fp12Isone _ => []
  | .fp12Pack a _ _ => [(.t, a.val)]
  | .fp12Get a _ _ => [(.s, a.val)]
  | .fp12Powp a _ _ => [(.t, a.val)]
  | .fp12Conj a _ => [(.t, a.val)]
  | .fp12Cycsqr a _ => [(.t, a.val)]
  | .fp12Cycpow a _ _ => [(.t, a.val)]
  | .g1Dec a _ _ _ => [(.g, a.val)]
  | .g1Enc _ _ _ => []
  | .g1Zero a => [(.g, a.val)]
  | .g1Mov a _ => [(.g, a.val)]
  | .g1Add a _ _ => [(.g, a.val)]
  | .g1Dbl a _ => [(.g, a.val)]
  | .g1Neg a _ => [(.g, a.val)]
  | .g1Scale a _ _ => [(.g, a.val)]
  | .g1Clrcof a _ => [(.g, a.val)]
  | .g1Fromaff a _ _ => [(.g, a.val)]
  | .g1Toaff a _ c => [(.f, a.val), (.f, c.val)]
  | .g1Pack a _ _ _ => [(.g, a.val)]
  | .g1Get a _ _ => [(.f, a.val)]
  | .g1Eq _ _ => []
  | .g1Iszero _ => []
  | .g1Isvalid _ => []
  | .g2Dec a _ _ _ => [(.h, a.val)]
  | .g2Enc _ _ _ => []
  | .g2Zero a => [(.h, a.val)]
  | .g2Mov a _ => [(.h, a.val)]
  | .g2Add a _ _ => [(.h, a.val)]
  | .g2Dbl a _ => [(.h, a.val)]
  | .g2Neg a _ => [(.h, a.val)]
  | .g2Scale a _ _ => [(.h, a.val)]
  | .g2Clrcof a _ => [(.h, a.val)]
  | .g2Fromaff a _ _ => [(.h, a.val)]
  | .g2Toaff a _ c => [(.q, a.val), (.q, c.val)]
  | .g2Pack a _ _ _ => [(.h, a.val)]
  | .g2Get a _ _ => [(.q, a.val)]
  | .g2Eq _ _ => []
  | .g2Iszero _ => []
  | .g2Isvalid _ => []
  | .g2Psi a _ => [(.h, a.val)]
  | .g2Psi2 a _ => [(.h, a.val)]
  | .miller a _ _ => [(.t, a.val)]
  | .finalExp a _ => [(.t, a.val)]
  | .finalVerify _ => []

/-- The address register an instruction writes (R24: `A.LI`, `A.ADDI`, `JAL`). -/
def addressDestination : Instr → Option AReg
  | .aLi a _ => some a
  | .aAddi a _ _ => some a
  | .jal a _ => some a
  | _ => none

/-- The instructions that write `T` (R23). -/
def writesTest : Instr → Bool
  | .fpEq _ _ => true
  | .fpIszero _ => true
  | .fpIsone _ => true
  | .fp2Eq _ _ => true
  | .fp2Iszero _ => true
  | .fp2Isone _ => true
  | .fp6Eq _ _ => true
  | .fp6Iszero _ => true
  | .fp6Isone _ => true
  | .fp12Eq _ _ => true
  | .fp12Iszero _ => true
  | .fp12Isone _ => true
  | .g1Eq _ _ => true
  | .g1Iszero _ => true
  | .g1Isvalid _ => true
  | .g2Eq _ _ => true
  | .g2Iszero _ => true
  | .g2Isvalid _ => true
  | .finalVerify _ => true
  | _ => false

/-- The bytes an instruction may store to, by the effective address and the width of R70. -/
def storeRange (s : State) : Instr → Option (Nat × Nat)
  | .kSt _ b imm => some (s.ea b imm, 48)
  | .fpSt _ b imm => some (s.ea b imm, 48)
  | .fp2St _ b imm => some (s.ea b imm, 96)
  | .fp6St _ b imm => some (s.ea b imm, 288)
  | .fp12St _ b imm => some (s.ea b imm, 576)
  | .g1Enc _ b imm => some (s.ea b imm, 48)
  | .g2Enc _ b imm => some (s.ea b imm, 96)
  | _ => none

/-- The instructions that may leave `pc` elsewhere than at the next word (R121). -/
def isJump : Instr → Bool
  | .j _ => true
  | .bt _ => true
  | .bf _ => true
  | .banz _ _ => true
  | .jal _ _ => true
  | .jr _ => true
  | _ => false

/-- Group number `j` of 48 bytes from `ea` up, read as a big-endian integer (R64, R65). -/
def State.group (s : State) (ea j : Nat) : Nat :=
  fromBe ((List.range 48).map fun i => s.dmemByte (ea + 48 * j + i))

/-- The flattening of an element, lowest coordinate first (R65). -/
def flatFp2 (x : Fp2) : List Nat := [x.c0.val, x.c1.val]
/-- R65. -/
def flatFp6 (x : Fp6) : List Nat := flatFp2 x.c0 ++ flatFp2 x.c1 ++ flatFp2 x.c2
/-- R65. -/
def flatFp12 (x : Fp12) : List Nat := flatFp6 x.c0 ++ flatFp6 x.c1

/-- Byte `m` of the big-endian picture of the 48-byte numbers `ns` (R63). -/
def pictureByte (ns : List Nat) (m : Nat) : BitVec 8 :=
  BitVec.ofNat 8 (ns.getD (m / 48) 0 / 256 ^ (47 - m % 48))

/-- Going from `s` to `t` stores the `n` bytes `image` at `ea`, moves `pc` on, and does nothing else (R69, R121). -/
def storesOnly (s t : State) (ea n : Nat) (image : Nat → BitVec 8) : Prop :=
  t = { s with dmem := t.dmem, pc := s.pc + 1 } ∧
    ∀ x, t.dmemByte x = if ea ≤ x ∧ x < ea + n then image (x - ea) else s.dmemByte x

/-- `y^(p^n)` in Fp2: `y` for even `n`, its conjugate for odd `n` (R208). -/
def conjugateIfOdd (n : Nat) (y : Fp2) : Fp2 := if n % 2 = 0 then y else ⟨y.c0, Fp.neg y.c1⟩

/-- The line of a coefficient triple at the affine point `(px, py)` (R465), by coordinates. -/
def lineAt (px py : Fp) (c0 c1 c2 : Fp2) : Fp12 :=
  ⟨⟨c0, ⟨Fp.mul c1.c0 px, Fp.mul c1.c1 px⟩, Fp2.zero⟩, ⟨Fp2.zero, ⟨Fp.mul c2.c0 py, Fp.mul c2.c1 py⟩, Fp2.zero⟩⟩

/-- R463 with its products multiplied out, `b = (12, 12)·Rz²`: the accumulator takes the line
`(b − Ry², 3Rx², −2RyRz)`, and the point becomes `((Ry² − 3b)RxRy/2, ((Ry² + 3b)/2)² − 3b², 2Ry³Rz)`. -/
def doubleAt (px py : Fp) (acc : Fp12 × G2Point) : Fp12 × G2Point :=
  let R := acc.2
  let yy := Fp2.mul R.y R.y
  let b := Fp2.mul ⟨Fp.ofNat 12, Fp.ofNat 12⟩ (Fp2.mul R.z R.z)
  let yz2 := Fp2.scale (Fp2.mul R.y R.z) 2
  let h := Fp2.halve (Fp2.add yy (Fp2.scale b 3))
  (Fp12.mul acc.1 (lineAt px py (Fp2.sub b yy) (Fp2.scale (Fp2.mul R.x R.x) 3) (Fp2.neg yz2)),
   ⟨Fp2.halve (Fp2.mul (Fp2.sub yy (Fp2.scale b 3)) (Fp2.mul R.x R.y)),
    Fp2.sub (Fp2.mul h h) (Fp2.scale (Fp2.mul b b) 3), Fp2.mul yy yz2⟩)

/-- R464, with `m = Ry − Qy·Rz`, `n = Rx − Qx·Rz` and `w = n³ − 2n²Rx + m²Rz`: the accumulator takes the line
`(m·Qx − n·Qy, −m, n)`, and the point becomes `(n·w, (n²Rx − w)m − n³Ry, n³Rz)`. -/
def addAt (px py : Fp) (qx qy : Fp2) (acc : Fp12 × G2Point) : Fp12 × G2Point :=
  let R := acc.2
  let m := Fp2.sub R.y (Fp2.mul qy R.z)
  let n := Fp2.sub R.x (Fp2.mul qx R.z)
  let nn := Fp2.mul n n
  let nnn := Fp2.mul n nn
  let w := Fp2.add (Fp2.sub nnn (Fp2.scale (Fp2.mul nn R.x) 2)) (Fp2.mul (Fp2.mul m m) R.z)
  (Fp12.mul acc.1 (lineAt px py (Fp2.sub (Fp2.mul m qx) (Fp2.mul n qy)) (Fp2.neg m) n),
   ⟨Fp2.mul n w, Fp2.sub (Fp2.mul (Fp2.sub (Fp2.mul nn R.x) w) m) (Fp2.mul nnn R.y), Fp2.mul nnn R.z⟩)

/-- The pass of bit `i` of the Miller loop, R462 and R466 walked together: a doubling, an addition at the set bits
62, 60, 57, 48 and 16 of `X`, and a squaring of the accumulator but in the last pass. -/
def millerPass (px py : Fp) (qx qy : Fp2) (acc : Fp12 × G2Point) (i : Nat) : Fp12 × G2Point :=
  let acc := doubleAt px py acc
  let acc := if i ∈ [62, 60, 57, 48, 16] then addAt px py qx qy acc else acc
  if i = 0 then acc else (Fp12.mul acc.1 acc.1, acc.2)

end Sys2Proof.Machine
end

