-- ==== Sys2Proof/Certificates/Slice0/Obligations.lean ====
section
/-! DEFINITION. The statements for the provers. Each says which part of spec/ it formalises. A register's contents in
a hypothesis, `s.f[b] = ⟨true, x⟩`, says that the register is valid and holds `x` (R32). -/

open Sys2Proof Sys2Proof.Machine

/-! ### Encoding and the step -/

/-- spec/30_encoding.md R91 to R96, R106: no bit of an instruction is dropped. -/
def Obligations.DecodeOfEncode : Prop := ∀ i : Instr, i.wf = true → decode (encode i) = .ok i

/-- spec/30_encoding.md R101, R102: a word is at most one instruction, and that instruction's word is the word. -/
def Obligations.EncodeOfDecode : Prop :=
  ∀ (w : BitVec 32) (i : Instr), decode w = .ok i → i.wf = true ∧ encode i = w

/-- spec/30_encoding.md R100 to R102: the words that are instructions, by mask, match and maximum. -/
def Obligations.DecodeAcceptsTableRows : Prop :=
  ∀ w : BitVec 32, (∃ i, decode w = .ok i) ↔
    ∃ r ∈ opcodeTable, w &&& r.mask = BitVec.ofNat 32 (r.opcode * 2 ^ 24) ∧ (w.extractLsb' 0 8).toNat ≤ r.fnMax

/-- spec/95_test_vectors.md section 9.1 and the examples of the instruction rules: one word or more of each family,
and one of each kind of illegal word. -/
def Obligations.DecodeOfWrittenWords : Prop :=
  decode 0x02000000 = .ok .halt ∧ decode 0x0720FFFC = .ok (.banz 2 0xFFFC) ∧
  decode 0x90130040 = .ok (.kLd 1 3 0x40) ∧ decode 0x17312000 = .ok (.fpMul 3 1 2) ∧
  decode 0x44350001 = .ok (.fp2Get 3 5 1) ∧ decode 0x64120002 = .ok (.fp6Get 1 2 2) ∧
  decode 0x8512000B = .ok (.fp12Powp 1 2 11) ∧ decode 0xAA314000 = .ok (.g1Toaff 3 1 4) ∧
  decode 0xA0101100 = .ok (.g1Dec 1 0 1 0x100) ∧ decode 0xC8210000 = .ok (.g2Clrcof 2 1) ∧
  decode 0xE0011000 = .ok (.miller 0 1 1) ∧ decode 0x00000000 = .error .unassignedOpcode ∧
  decode 0x01000001 = .error .reservedBits ∧ decode 0x8512000C = .error .indexTooBig

/-- spec/40_control.md R120: in RUNNING, the step runs the instruction whose word is at `pc`. The host's turn (log 6)
is the model's: with nothing pending the sequencer steps at once, and a pending turn is used up by it. -/
def Obligations.StepRunsDecodedInstruction : Prop :=
  ∀ (s : State) (i : Instr), s.run = .running → s.pc.toNat < s.sizes.imemWords →
    decode (s.imemWord s.pc.toNat) = .ok i →
    (s.host = [] → step s = exec i s) ∧
    (∀ rest, s.host = .turn :: rest → step s = exec i { s with host := rest })

/-- spec/60_exceptions.md R523, R524 (and spec/40_control.md R120): the two faults of the step itself, with nothing
pending from the host and with its turn pending (log 6). -/
def Obligations.StepFetchAndDecodeFaults : Prop :=
  ∀ s : State, s.run = .running →
    (s.sizes.imemWords ≤ s.pc.toNat →
      (s.host = [] → step s = .next (s.faultedWith 2 s.pc.toNat)) ∧
      (∀ rest, s.host = .turn :: rest → step s = .next ({ s with host := rest }.faultedWith 2 s.pc.toNat))) ∧
    (∀ e, s.pc.toNat < s.sizes.imemWords → decode (s.imemWord s.pc.toNat) = .error e →
      (s.host = [] → step s = .next (s.faultedWith 1 (s.imemWord s.pc.toNat).toNat)) ∧
      (∀ rest, s.host = .turn :: rest →
        step s = .next ({ s with host := rest }.faultedWith 1 (s.imemWord s.pc.toNat).toNat)))

/-- spec/10_state.md R34: the sequencer takes steps only in RUNNING. That the machine then stays as it is, rather
than having no step, is the model's choice (log 7), and so is the host's turn, which the step uses up (log 6). -/
def Obligations.StepWaitsUnlessRunning : Prop :=
  ∀ s : State, s.run ≠ .running →
    (s.host = [] → step s = .next s) ∧
    (∀ rest, s.host = .turn :: rest → step s = .next { s with host := rest })

/-! ### What each instruction does -/

/-- spec/40_control.md R123 to R133: the sequencer and address-register instructions, `TRAP` among them, whose own
effect is to raise its fault. `a0` reads 0 and discards writes (R24). -/
def Obligations.ControlResults : Prop :=
  ∀ s : State,
    exec .nop s = .next { s with pc := s.pc + 1 } ∧
    exec .halt s = .next { s with run := .halted, pc := s.pc + 1 } ∧
    (∀ imm, exec (.trap imm) s = .next (s.faultedWith 14 imm.toNat)) ∧
    (∀ off, exec (.j off) s = .next { s with pc := s.pc + off }) ∧
    (∀ off, exec (.bt off) s = .next { s with pc := if s.tflag = true then s.pc + off else s.pc + 1 }) ∧
    (∀ off, exec (.bf off) s = .next { s with pc := if s.tflag = true then s.pc + 1 else s.pc + off }) ∧
    (∀ off, exec (.banz 0 off) s = .next { s with pc := s.pc + 1 }) ∧
    (∀ a off, a ≠ 0 → exec (.banz a off) s = .next { s with pc := if s.a[a] = 0 then s.pc + 1 else s.pc + off }) ∧
    (∀ off, exec (.jal 0 off) s = .next { s with pc := s.pc + off }) ∧
    (∀ a off, a ≠ 0 → exec (.jal a off) s = .next { s with a := s.a.set a (s.pc + 1), pc := s.pc + off }) ∧
    exec (.jr 0) s = .next { s with pc := 0 } ∧
    (∀ a, a ≠ 0 → exec (.jr a) s = .next { s with pc := s.a[a] }) ∧
    (∀ imm, exec (.aLi 0 imm) s = .next { s with pc := s.pc + 1 }) ∧
    (∀ a imm, a ≠ 0 → exec (.aLi a imm) s = .next { s with a := s.a.set a imm, pc := s.pc + 1 }) ∧
    (∀ b imm, exec (.aAddi 0 b imm) s = .next { s with pc := s.pc + 1 }) ∧
    (∀ a imm, a ≠ 0 → exec (.aAddi a 0 imm) s = .next { s with a := s.a.set a imm, pc := s.pc + 1 }) ∧
    (∀ a b imm, a ≠ 0 → b ≠ 0 →
      exec (.aAddi a b imm) s = .next { s with a := s.a.set a (s.a[b] + imm), pc := s.pc + 1 })

/-- spec/40_control.md R137 to R139. -/
def Obligations.IntegerResults : Prop :=
  ∀ s : State,
    (∀ a imm, exec (.kLi a imm) s =
      .next { s with k := s.k.set a ⟨true, BitVec.ofNat 384 imm.toNat⟩, pc := s.pc + 1 }) ∧
    (∀ a b n, s.k[b] = ⟨true, n⟩ →
      exec (.kMov a b) s = .next { s with k := s.k.set a ⟨true, n⟩, pc := s.pc + 1 }) ∧
    (∀ a b n, s.k[b] = ⟨true, n⟩ → ∃ m : BitVec 384, m.toNat = n.toNat % orderR ∧
      exec (.kModr a b) s = .next { s with k := s.k.set a ⟨true, m⟩, pc := s.pc + 1 })

/-- spec/41_fp.md R151 to R157, R160 and R172 to R182: the Fp operations that always have a value, in integers modulo
`p`. Each writes register `a` and moves `pc` on, and nothing else. -/
def Obligations.FpArithmeticResults : Prop :=
  ∀ s : State,
    (∀ a imm, exec (.fpLi a imm) s =
      .next { s with f := s.f.set a ⟨true, Fp.ofNat imm.toNat⟩, pc := s.pc + 1 }) ∧
    (∀ (a b : FReg) x, s.f[b] = ⟨true, x⟩ →
      exec (.fpMov a b) s = .next { s with f := s.f.set a ⟨true, x⟩, pc := s.pc + 1 } ∧
      exec (.fpNeg a b) s =
        .next { s with f := s.f.set a ⟨true, Fp.ofNat (Config.p - x.val)⟩, pc := s.pc + 1 } ∧
      exec (.fpSqr a b) s = .next { s with f := s.f.set a ⟨true, Fp.ofNat (x.val ^ 2)⟩, pc := s.pc + 1 } ∧
      exec (.fpCube a b) s = .next { s with f := s.f.set a ⟨true, Fp.ofNat (x.val ^ 3)⟩, pc := s.pc + 1 } ∧
      (∃ r : Fp, 2 * r.val % Config.p = x.val ∧
        exec (.fpHalve a b) s = .next { s with f := s.f.set a ⟨true, r⟩, pc := s.pc + 1 })) ∧
    (∀ (a b c : FReg) x y, s.f[b] = ⟨true, x⟩ → s.f[c] = ⟨true, y⟩ →
      exec (.fpAdd a b c) s =
        .next { s with f := s.f.set a ⟨true, Fp.ofNat (x.val + y.val)⟩, pc := s.pc + 1 } ∧
      exec (.fpSub a b c) s =
        .next { s with f := s.f.set a ⟨true, Fp.ofNat (x.val + (Config.p - y.val))⟩, pc := s.pc + 1 } ∧
      exec (.fpMul a b c) s =
        .next { s with f := s.f.set a ⟨true, Fp.ofNat (x.val * y.val)⟩, pc := s.pc + 1 }) ∧
    (∀ (a b : FReg) (c : KReg) x n, s.f[b] = ⟨true, x⟩ → s.k[c] = ⟨true, n⟩ →
      exec (.fpScale a b c) s =
        .next { s with f := s.f.set a ⟨true, Fp.ofNat (x.val * n.toNat)⟩, pc := s.pc + 1 } ∧
      exec (.fpPow a b c) s =
        .next { s with f := s.f.set a ⟨true, Fp.ofNat (x.val ^ n.toNat)⟩, pc := s.pc + 1 })

/-- spec/41_fp.md R158, R159, R183, R184: inversion and division complete for every divisor but zero and then give
the inverse and the quotient, and raise `INV_ZERO` for zero. The inverse is stated for divisors coprime to `p`, which
are all the nonzero ones since `p` is prime (R6), a fact the statement does not assert. -/
def Obligations.FpInverseAndQuotient : Prop :=
  ∀ (s : State) (a b c : FReg) (x y : Fp), s.f[b] = ⟨true, x⟩ → s.f[c] = ⟨true, y⟩ →
    (y.val ≠ 0 → ∃ r : Fp, exec (.fpInv a c) s = .next { s with f := s.f.set a ⟨true, r⟩, pc := s.pc + 1 } ∧
      (Nat.Coprime y.val Config.p → y.val * r.val % Config.p = 1)) ∧
    (y.val ≠ 0 → ∃ r : Fp, exec (.fpDiv a b c) s = .next { s with f := s.f.set a ⟨true, r⟩, pc := s.pc + 1 } ∧
      (Nat.Coprime y.val Config.p → y.val * r.val % Config.p = x.val)) ∧
    (y.val = 0 → exec (.fpInv a c) s = .next (s.faultedWith 6 0) ∧
      exec (.fpDiv a b c) s = .next (s.faultedWith 6 0))

/-- spec/41_fp.md R161, R185 and spec/42_fp2.md R213, R214, R235: the square roots. In Fp the root is the power
`(p + 1)/4` where that squares back. In Fp2 every square has a root that squares back and is not big, and what has no
root faults. -/
def Obligations.SquareRoots : Prop :=
  ∀ s : State,
    (∀ (a b : FReg) x, s.f[b] = ⟨true, x⟩ →
      (∀ r, r = Fp.pow x ((Config.p + 1) / 4) → Fp.mul r r = x →
        exec (.fpSqrt a b) s = .next { s with f := s.f.set a ⟨true, r⟩, pc := s.pc + 1 }) ∧
      (∀ r, r = Fp.pow x ((Config.p + 1) / 4) → Fp.mul r r ≠ x →
        exec (.fpSqrt a b) s = .next (s.faultedWith 7 0))) ∧
    (∀ (a b : QReg) x, s.q[b] = ⟨true, x⟩ →
      (∀ r, Fp2.sqrt x = some r → Fp2.mul r r = x ∧ Fp2.big r = false ∧
        exec (.fp2Sqrt a b) s = .next { s with q := s.q.set a ⟨true, r⟩, pc := s.pc + 1 }) ∧
      (Fp2.sqrt x = none → exec (.fp2Sqrt a b) s = .next (s.faultedWith 7 0)) ∧
      (∀ y, Fp2.mul y y = x → ∃ r, Fp2.mul r r = x ∧
        (if r.c1.val = 0 then 2 * r.c0.val ≤ Config.p else 2 * r.c1.val ≤ Config.p) ∧
        exec (.fp2Sqrt a b) s = .next { s with q := s.q.set a ⟨true, r⟩, pc := s.pc + 1 }) ∧
      ((∀ y, Fp2.mul y y ≠ x) → exec (.fp2Sqrt a b) s = .next (s.faultedWith 7 0)))

/-- spec/42_fp2.md R201 to R208, R222 to R232, R239, R240: the Fp2 operations that always have a value. The product
is in integers modulo `p`. -/
def Obligations.Fp2ArithmeticResults : Prop :=
  ∀ s : State,
    (∀ a imm, exec (.fp2Li a imm) s =
      .next { s with q := s.q.set a ⟨true, ⟨Fp.ofNat imm.toNat, Fp.ofNat 0⟩⟩, pc := s.pc + 1 }) ∧
    (∀ (a b : QReg) x, s.q[b] = ⟨true, x⟩ →
      exec (.fp2Mov a b) s = .next { s with q := s.q.set a ⟨true, x⟩, pc := s.pc + 1 } ∧
      exec (.fp2Neg a b) s =
        .next { s with q := s.q.set a ⟨true, ⟨Fp.neg x.c0, Fp.neg x.c1⟩⟩, pc := s.pc + 1 } ∧
      exec (.fp2Sqr a b) s = .next { s with q := s.q.set a ⟨true, Fp2.mul x x⟩, pc := s.pc + 1 } ∧
      exec (.fp2Cube a b) s = .next { s with q := s.q.set a ⟨true, Fp2.mul (Fp2.mul x x) x⟩, pc := s.pc + 1 } ∧
      exec (.fp2Halve a b) s =
        .next { s with q := s.q.set a ⟨true, ⟨Fp.halve x.c0, Fp.halve x.c1⟩⟩, pc := s.pc + 1 }) ∧
    (∀ (a b c : QReg) x y, s.q[b] = ⟨true, x⟩ → s.q[c] = ⟨true, y⟩ →
      exec (.fp2Add a b c) s =
        .next { s with q := s.q.set a ⟨true, ⟨Fp.add x.c0 y.c0, Fp.add x.c1 y.c1⟩⟩, pc := s.pc + 1 } ∧
      exec (.fp2Sub a b c) s =
        .next { s with q := s.q.set a ⟨true, ⟨Fp.sub x.c0 y.c0, Fp.sub x.c1 y.c1⟩⟩, pc := s.pc + 1 } ∧
      (∃ r : Fp2,
        (r.c0.val : Int) = ((x.c0.val : Int) * y.c0.val - (x.c1.val : Int) * y.c1.val) % Config.p ∧
        (r.c1.val : Int) = ((x.c0.val : Int) * y.c1.val + (x.c1.val : Int) * y.c0.val) % Config.p ∧
        exec (.fp2Mul a b c) s = .next { s with q := s.q.set a ⟨true, r⟩, pc := s.pc + 1 })) ∧
    (∀ (a b : QReg) (c : KReg) x n, s.q[b] = ⟨true, x⟩ → s.k[c] = ⟨true, n⟩ →
      exec (.fp2Scale a b c) s =
        .next { s with q := s.q.set a ⟨true, ⟨Fp.scale x.c0 n.toNat, Fp.scale x.c1 n.toNat⟩⟩, pc := s.pc + 1 } ∧
      exec (.fp2Pow a b c) s = .next { s with q := s.q.set a ⟨true, Fp2.pow x n.toNat⟩, pc := s.pc + 1 }) ∧
    (∀ (a : QReg) (b c : FReg) x y, s.f[b] = ⟨true, x⟩ → s.f[c] = ⟨true, y⟩ →
      exec (.fp2Pack a b c) s = .next { s with q := s.q.set a ⟨true, ⟨x, y⟩⟩, pc := s.pc + 1 }) ∧
    (∀ (a : FReg) (b : QReg) x, s.q[b] = ⟨true, x⟩ →
      exec (.fp2Get a b 0) s = .next { s with f := s.f.set a ⟨true, x.c0⟩, pc := s.pc + 1 } ∧
      exec (.fp2Get a b 1) s = .next { s with f := s.f.set a ⟨true, x.c1⟩, pc := s.pc + 1 })

/-- spec/43_fp6.md R251 to R257, R272 to R282, R288, R289: the Fp6 operations that always have a value. -/
def Obligations.Fp6ArithmeticResults : Prop :=
  ∀ s : State,
    (∀ a imm, exec (.fp6Li a imm) s = .next { s with
      s := s.s.set a ⟨true, ⟨⟨Fp.ofNat imm.toNat, Fp.ofNat 0⟩, Fp2.zero, Fp2.zero⟩⟩, pc := s.pc + 1 }) ∧
    (∀ (a b : SReg) x, s.s[b] = ⟨true, x⟩ →
      exec (.fp6Mov a b) s = .next { s with s := s.s.set a ⟨true, x⟩, pc := s.pc + 1 } ∧
      exec (.fp6Neg a b) s =
        .next { s with s := s.s.set a ⟨true, ⟨Fp2.neg x.c0, Fp2.neg x.c1, Fp2.neg x.c2⟩⟩, pc := s.pc + 1 } ∧
      exec (.fp6Sqr a b) s = .next { s with s := s.s.set a ⟨true, Fp6.mul x x⟩, pc := s.pc + 1 } ∧
      exec (.fp6Cube a b) s = .next { s with s := s.s.set a ⟨true, Fp6.mul (Fp6.mul x x) x⟩, pc := s.pc + 1 } ∧
      exec (.fp6Halve a b) s = .next { s with
        s := s.s.set a ⟨true, ⟨Fp2.halve x.c0, Fp2.halve x.c1, Fp2.halve x.c2⟩⟩, pc := s.pc + 1 }) ∧
    (∀ (a b c : SReg) x y, s.s[b] = ⟨true, x⟩ → s.s[c] = ⟨true, y⟩ →
      exec (.fp6Add a b c) s = .next { s with
        s := s.s.set a ⟨true, ⟨Fp2.add x.c0 y.c0, Fp2.add x.c1 y.c1, Fp2.add x.c2 y.c2⟩⟩, pc := s.pc + 1 } ∧
      exec (.fp6Sub a b c) s = .next { s with
        s := s.s.set a ⟨true, ⟨Fp2.sub x.c0 y.c0, Fp2.sub x.c1 y.c1, Fp2.sub x.c2 y.c2⟩⟩, pc := s.pc + 1 } ∧
      exec (.fp6Mul a b c) s = .next { s with s := s.s.set a ⟨true,
        ⟨Fp2.add (Fp2.mul x.c0 y.c0) (Fp2.mul xi (Fp2.add (Fp2.mul x.c1 y.c2) (Fp2.mul x.c2 y.c1))),
         Fp2.add (Fp2.add (Fp2.mul x.c0 y.c1) (Fp2.mul x.c1 y.c0)) (Fp2.mul xi (Fp2.mul x.c2 y.c2)),
         Fp2.add (Fp2.add (Fp2.mul x.c0 y.c2) (Fp2.mul x.c1 y.c1)) (Fp2.mul x.c2 y.c0)⟩⟩, pc := s.pc + 1 }) ∧
    (∀ (a b : SReg) (c : KReg) x n, s.s[b] = ⟨true, x⟩ → s.k[c] = ⟨true, n⟩ →
      exec (.fp6Scale a b c) s = .next { s with s := s.s.set a ⟨true,
        ⟨Fp2.scale x.c0 n.toNat, Fp2.scale x.c1 n.toNat, Fp2.scale x.c2 n.toNat⟩⟩, pc := s.pc + 1 } ∧
      exec (.fp6Pow a b c) s = .next { s with s := s.s.set a ⟨true, Fp6.pow x n.toNat⟩, pc := s.pc + 1 }) ∧
    (∀ (a : SReg) (b c d : QReg) x y z, s.q[b] = ⟨true, x⟩ → s.q[c] = ⟨true, y⟩ → s.q[d] = ⟨true, z⟩ →
      exec (.fp6Pack a b c d) s = .next { s with s := s.s.set a ⟨true, ⟨x, y, z⟩⟩, pc := s.pc + 1 }) ∧
    (∀ (a : QReg) (b : SReg) x, s.s[b] = ⟨true, x⟩ →
      exec (.fp6Get a b 0) s = .next { s with q := s.q.set a ⟨true, x.c0⟩, pc := s.pc + 1 } ∧
      exec (.fp6Get a b 1) s = .next { s with q := s.q.set a ⟨true, x.c1⟩, pc := s.pc + 1 } ∧
      exec (.fp6Get a b 2) s = .next { s with q := s.q.set a ⟨true, x.c2⟩, pc := s.pc + 1 })

/-- spec/44_fp12.md R301 to R309, R317, R332 to R342, R348 to R351: the Fp12 operations that always have a value. -/
def Obligations.Fp12ArithmeticResults : Prop :=
  ∀ s : State,
    (∀ a imm, exec (.fp12Li a imm) s = .next { s with
      t := s.t.set a ⟨true, ⟨⟨⟨Fp.ofNat imm.toNat, Fp.ofNat 0⟩, Fp2.zero, Fp2.zero⟩, Fp6.zero⟩⟩, pc := s.pc + 1 }) ∧
    (∀ (a b : TReg) x, s.t[b] = ⟨true, x⟩ →
      exec (.fp12Mov a b) s = .next { s with t := s.t.set a ⟨true, x⟩, pc := s.pc + 1 } ∧
      exec (.fp12Neg a b) s =
        .next { s with t := s.t.set a ⟨true, ⟨Fp6.neg x.c0, Fp6.neg x.c1⟩⟩, pc := s.pc + 1 } ∧
      exec (.fp12Conj a b) s = .next { s with t := s.t.set a ⟨true, ⟨x.c0, Fp6.neg x.c1⟩⟩, pc := s.pc + 1 } ∧
      exec (.fp12Sqr a b) s = .next { s with t := s.t.set a ⟨true, Fp12.mul x x⟩, pc := s.pc + 1 } ∧
      exec (.fp12Cube a b) s =
        .next { s with t := s.t.set a ⟨true, Fp12.mul (Fp12.mul x x) x⟩, pc := s.pc + 1 } ∧
      exec (.fp12Halve a b) s =
        .next { s with t := s.t.set a ⟨true, ⟨Fp6.halve x.c0, Fp6.halve x.c1⟩⟩, pc := s.pc + 1 } ∧
      (∀ n, n.toNat ≤ 11 →
        exec (.fp12Powp a b n) s = .next { s with t := s.t.set a ⟨true, Fp12.powp x n.toNat⟩, pc := s.pc + 1 })) ∧
    (∀ (a b c : TReg) x y, s.t[b] = ⟨true, x⟩ → s.t[c] = ⟨true, y⟩ →
      exec (.fp12Add a b c) s =
        .next { s with t := s.t.set a ⟨true, ⟨Fp6.add x.c0 y.c0, Fp6.add x.c1 y.c1⟩⟩, pc := s.pc + 1 } ∧
      exec (.fp12Sub a b c) s =
        .next { s with t := s.t.set a ⟨true, ⟨Fp6.sub x.c0 y.c0, Fp6.sub x.c1 y.c1⟩⟩, pc := s.pc + 1 } ∧
      exec (.fp12Mul a b c) s = .next { s with t := s.t.set a ⟨true,
        ⟨Fp6.add (Fp6.mul x.c0 y.c0) (Fp6.mul ⟨Fp2.zero, Fp2.one, Fp2.zero⟩ (Fp6.mul x.c1 y.c1)),
         Fp6.add (Fp6.mul x.c0 y.c1) (Fp6.mul x.c1 y.c0)⟩⟩, pc := s.pc + 1 }) ∧
    (∀ (a b : TReg) (c : KReg) x n, s.t[b] = ⟨true, x⟩ → s.k[c] = ⟨true, n⟩ →
      exec (.fp12Scale a b c) s = .next { s with
        t := s.t.set a ⟨true, ⟨Fp6.scale x.c0 n.toNat, Fp6.scale x.c1 n.toNat⟩⟩, pc := s.pc + 1 } ∧
      exec (.fp12Pow a b c) s = .next { s with t := s.t.set a ⟨true, Fp12.pow x n.toNat⟩, pc := s.pc + 1 }) ∧
    (∀ (a : TReg) (b c : SReg) x y, s.s[b] = ⟨true, x⟩ → s.s[c] = ⟨true, y⟩ →
      exec (.fp12Pack a b c) s = .next { s with t := s.t.set a ⟨true, ⟨x, y⟩⟩, pc := s.pc + 1 }) ∧
    (∀ (a : SReg) (b : TReg) x, s.t[b] = ⟨true, x⟩ →
      exec (.fp12Get a b 0) s = .next { s with s := s.s.set a ⟨true, x.c0⟩, pc := s.pc + 1 } ∧
      exec (.fp12Get a b 1) s = .next { s with s := s.s.set a ⟨true, x.c1⟩, pc := s.pc + 1 })

/-- spec/42_fp2.md R206, R207, spec/43_fp6.md R256, R257 and spec/44_fp12.md R306, R307, with the instruction rules
R233, R234, R283, R284, R343, R344: inversion and division complete where the inverse of the rule's closed form
exists, raise `INV_ZERO` where it does not, and it does not exist for zero. -/
def Obligations.TowerInverseAndQuotient : Prop :=
  ∀ s : State,
    (∀ (a b c : QReg) x y, s.q[b] = ⟨true, x⟩ → s.q[c] = ⟨true, y⟩ →
      (∀ r, Fp2.inv y = some r →
        exec (.fp2Inv a c) s = .next { s with q := s.q.set a ⟨true, r⟩, pc := s.pc + 1 } ∧
        exec (.fp2Div a b c) s = .next { s with q := s.q.set a ⟨true, Fp2.mul x r⟩, pc := s.pc + 1 }) ∧
      (Fp2.inv y = none ∨ y = Fp2.zero → exec (.fp2Inv a c) s = .next (s.faultedWith 6 0) ∧
        exec (.fp2Div a b c) s = .next (s.faultedWith 6 0))) ∧
    (∀ (a b c : SReg) x y, s.s[b] = ⟨true, x⟩ → s.s[c] = ⟨true, y⟩ →
      (∀ r, Fp6.inv y = some r →
        exec (.fp6Inv a c) s = .next { s with s := s.s.set a ⟨true, r⟩, pc := s.pc + 1 } ∧
        exec (.fp6Div a b c) s = .next { s with s := s.s.set a ⟨true, Fp6.mul x r⟩, pc := s.pc + 1 }) ∧
      (Fp6.inv y = none ∨ y = Fp6.zero → exec (.fp6Inv a c) s = .next (s.faultedWith 6 0) ∧
        exec (.fp6Div a b c) s = .next (s.faultedWith 6 0))) ∧
    (∀ (a b c : TReg) x y, s.t[b] = ⟨true, x⟩ → s.t[c] = ⟨true, y⟩ →
      (∀ r, Fp12.inv y = some r →
        exec (.fp12Inv a c) s = .next { s with t := s.t.set a ⟨true, r⟩, pc := s.pc + 1 } ∧
        exec (.fp12Div a b c) s = .next { s with t := s.t.set a ⟨true, Fp12.mul x r⟩, pc := s.pc + 1 }) ∧
      (Fp12.inv y = none ∨ y = Fp12.zero → exec (.fp12Inv a c) s = .next (s.faultedWith 6 0) ∧
        exec (.fp12Div a b c) s = .next (s.faultedWith 6 0)))

/-- spec/42_fp2.md R206, spec/43_fp6.md R256, spec/44_fp12.md R306: the inverse that each level gives is one, where
the norm down to Fp is coprime to `p`. The rules say that it is so everywhere but at zero, which is not asserted
here. -/
def Obligations.TowerInverseIsInverse : Prop :=
  (∀ x : Fp2, Nat.Coprime ((x.c0.val ^ 2 + x.c1.val ^ 2) % Config.p) Config.p →
    ∃ y, Fp2.inv x = some y ∧ Fp2.mul x y = ⟨Fp.ofNat 1, Fp.ofNat 0⟩) ∧
  (∀ (x : Fp6) (d : Fp2), d = Fp6.norm x →
    Nat.Coprime ((d.c0.val ^ 2 + d.c1.val ^ 2) % Config.p) Config.p →
    ∃ y, Fp6.inv x = some y ∧ Fp6.mul x y = ⟨⟨Fp.ofNat 1, Fp.ofNat 0⟩, Fp2.zero, Fp2.zero⟩) ∧
  (∀ (x : Fp12) (d : Fp2), d = Fp6.norm (Fp12.norm x) →
    Nat.Coprime ((d.c0.val ^ 2 + d.c1.val ^ 2) % Config.p) Config.p →
    ∃ y, Fp12.inv x = some y ∧
      Fp12.mul x y = ⟨⟨⟨Fp.ofNat 1, Fp.ofNat 0⟩, Fp2.zero, Fp2.zero⟩, ⟨Fp2.zero, Fp2.zero, Fp2.zero⟩⟩)

/-- spec/41_fp.md R186 to R188, spec/42_fp2.md R236 to R238, spec/43_fp6.md R285 to R287, spec/44_fp12.md R345 to
R347: a test writes `T` and nothing else. -/
def Obligations.FieldTests : Prop :=
  ∀ s : State,
    (∀ (b c : FReg) x y, s.f[b] = ⟨true, x⟩ → s.f[c] = ⟨true, y⟩ →
      exec (.fpEq b c) s = .next { s with tflag := decide (x = y), pc := s.pc + 1 } ∧
      exec (.fpIszero b) s = .next { s with tflag := decide (x.val = 0), pc := s.pc + 1 } ∧
      exec (.fpIsone b) s = .next { s with tflag := decide (x.val = 1), pc := s.pc + 1 }) ∧
    (∀ (b c : QReg) x y, s.q[b] = ⟨true, x⟩ → s.q[c] = ⟨true, y⟩ →
      exec (.fp2Eq b c) s = .next { s with tflag := decide (x = y), pc := s.pc + 1 } ∧
      exec (.fp2Iszero b) s = .next { s with tflag := decide (flatFp2 x = [0, 0]), pc := s.pc + 1 } ∧
      exec (.fp2Isone b) s = .next { s with tflag := decide (flatFp2 x = [1, 0]), pc := s.pc + 1 }) ∧
    (∀ (b c : SReg) x y, s.s[b] = ⟨true, x⟩ → s.s[c] = ⟨true, y⟩ →
      exec (.fp6Eq b c) s = .next { s with tflag := decide (x = y), pc := s.pc + 1 } ∧
      exec (.fp6Iszero b) s =
        .next { s with tflag := decide (flatFp6 x = List.replicate 6 0), pc := s.pc + 1 } ∧
      exec (.fp6Isone b) s =
        .next { s with tflag := decide (flatFp6 x = 1 :: List.replicate 5 0), pc := s.pc + 1 }) ∧
    (∀ (b c : TReg) x y, s.t[b] = ⟨true, x⟩ → s.t[c] = ⟨true, y⟩ →
      exec (.fp12Eq b c) s = .next { s with tflag := decide (x = y), pc := s.pc + 1 } ∧
      exec (.fp12Iszero b) s =
        .next { s with tflag := decide (flatFp12 x = List.replicate 12 0), pc := s.pc + 1 } ∧
      exec (.fp12Isone b) s =
        .next { s with tflag := decide (flatFp12 x = 1 :: List.replicate 11 0), pc := s.pc + 1 })

/-- spec/44_fp12.md R318 to R320, R352, R353: in the cyclotomic subgroup the square and the power; outside it some
value of Fp12 (U1), with no fault and nothing else changed but the model's own count of draws (log 4); exponents 0 and
1 are exact everywhere. -/
def Obligations.CyclotomicResults : Prop :=
  ∀ (s : State) (a b : TReg) (x : Fp12), s.t[b] = ⟨true, x⟩ →
    (x ≠ Fp12.zero → Fp12.mul (Fp12.powp x 4) x = Fp12.powp x 2 →
      exec (.fp12Cycsqr a b) s = .next { s with t := s.t.set a ⟨true, Fp12.mul x x⟩, pc := s.pc + 1 } ∧
      ∀ (c : KReg) n, s.k[c] = ⟨true, n⟩ →
        exec (.fp12Cycpow a b c) s =
          .next { s with t := s.t.set a ⟨true, Fp12.pow x n.toNat⟩, pc := s.pc + 1 }) ∧
    (x = Fp12.zero ∨ Fp12.mul (Fp12.powp x 4) x ≠ Fp12.powp x 2 →
      (∃ y, exec (.fp12Cycsqr a b) s =
        .next { s with t := s.t.set a ⟨true, y⟩, pc := s.pc + 1, draws := s.draws + 1 }) ∧
      ∀ (c : KReg) n, s.k[c] = ⟨true, n⟩ → 2 ≤ n.toNat →
        ∃ y, exec (.fp12Cycpow a b c) s =
          .next { s with t := s.t.set a ⟨true, y⟩, pc := s.pc + 1, draws := s.draws + 1 }) ∧
    (∀ c : KReg, s.k[c] = ⟨true, 0⟩ →
      exec (.fp12Cycpow a b c) s = .next { s with t := s.t.set a ⟨true, Fp12.one⟩, pc := s.pc + 1 }) ∧
    (∀ c : KReg, s.k[c] = ⟨true, 1⟩ →
      exec (.fp12Cycpow a b c) s = .next { s with t := s.t.set a ⟨true, x⟩, pc := s.pc + 1 })

/-- spec/45_g1.md R367, R368, R371, R373, R377, R385 to R395: the G1 operations, the exact triple. `G1.TOAFF` writes
x, then y. -/
def Obligations.G1Results : Prop :=
  ∀ s : State,
    (∀ a, exec (.g1Zero a) s =
      .next { s with g := s.g.set a ⟨true, ⟨Fp.ofNat 0, Fp.ofNat 1, Fp.ofNat 0⟩⟩, pc := s.pc + 1 }) ∧
    (∀ (a b : GReg) P, s.g[b] = ⟨true, P⟩ →
      exec (.g1Mov a b) s = .next { s with g := s.g.set a ⟨true, P⟩, pc := s.pc + 1 } ∧
      exec (.g1Dbl a b) s = .next { s with g := s.g.set a ⟨true, Proj.add curveFp P P⟩, pc := s.pc + 1 } ∧
      exec (.g1Neg a b) s = .next { s with g := s.g.set a ⟨true, ⟨P.x, Fp.neg P.y, P.z⟩⟩, pc := s.pc + 1 } ∧
      exec (.g1Clrcof a b) s = .next { s with
        g := s.g.set a ⟨true, Proj.add curveFp (Proj.scale curveFp P 0xd201000000010000) P⟩, pc := s.pc + 1 }) ∧
    (∀ (a b c : GReg) P Q, s.g[b] = ⟨true, P⟩ → s.g[c] = ⟨true, Q⟩ →
      exec (.g1Add a b c) s = .next { s with g := s.g.set a ⟨true, Proj.add curveFp P Q⟩, pc := s.pc + 1 }) ∧
    (∀ (a b : GReg) (c : KReg) P n, s.g[b] = ⟨true, P⟩ → s.k[c] = ⟨true, n⟩ →
      exec (.g1Scale a b c) s =
        .next { s with g := s.g.set a ⟨true, Proj.scale curveFp P n.toNat⟩, pc := s.pc + 1 }) ∧
    (∀ (a : GReg) (b c : FReg) x y, s.f[b] = ⟨true, x⟩ → s.f[c] = ⟨true, y⟩ →
      exec (.g1Fromaff a b c) s = .next { s with
        g := s.g.set a ⟨true, if x.val = 0 ∧ y.val = 1 then ⟨Fp.ofNat 0, Fp.ofNat 1, Fp.ofNat 0⟩
          else ⟨x, y, Fp.ofNat 1⟩⟩, pc := s.pc + 1 }) ∧
    (∀ (a : FReg) (b : GReg) (c : FReg) P, s.g[b] = ⟨true, P⟩ →
      (P.z.val = 0 → exec (.g1Toaff a b c) s = .next { s with
        f := (s.f.set a ⟨true, Fp.ofNat 0⟩).set c ⟨true, Fp.ofNat 1⟩, pc := s.pc + 1 }) ∧
      (P.z.val ≠ 0 → ∃ zi, Fp.inv P.z = some zi ∧ exec (.g1Toaff a b c) s = .next { s with
        f := (s.f.set a ⟨true, Fp.mul P.x zi⟩).set c ⟨true, Fp.mul P.y zi⟩, pc := s.pc + 1 })) ∧
    (∀ (a : GReg) (b c d : FReg) x y z, s.f[b] = ⟨true, x⟩ → s.f[c] = ⟨true, y⟩ → s.f[d] = ⟨true, z⟩ →
      exec (.g1Pack a b c d) s = .next { s with g := s.g.set a ⟨true, ⟨x, y, z⟩⟩, pc := s.pc + 1 }) ∧
    (∀ (a : FReg) (b : GReg) P, s.g[b] = ⟨true, P⟩ →
      exec (.g1Get a b 0) s = .next { s with f := s.f.set a ⟨true, P.x⟩, pc := s.pc + 1 } ∧
      exec (.g1Get a b 1) s = .next { s with f := s.f.set a ⟨true, P.y⟩, pc := s.pc + 1 } ∧
      exec (.g1Get a b 2) s = .next { s with f := s.f.set a ⟨true, P.z⟩, pc := s.pc + 1 })

/-- spec/46_g2.md R410 to R414, R420 to R430, R434, R435: the G2 operations, the exact triple. `G2.CLRCOF` is the
sequence of R414, step by step: `t1 = [−X]P`, `t2 = ψ(P)`, `t3 = ψ²(2P)`, `t4 = t3 − t2`, `t5 = t1 + t2`,
`t6 = [−X]t5`, `t7 = t4 + t6`, `t8 = t7 − t1`, and `t8 − P`. -/
def Obligations.G2Results : Prop :=
  ∀ s : State,
    (∀ a, exec (.g2Zero a) s =
      .next { s with h := s.h.set a ⟨true, ⟨Fp2.zero, Fp2.one, Fp2.zero⟩⟩, pc := s.pc + 1 }) ∧
    (∀ (a b : HReg) P, s.h[b] = ⟨true, P⟩ →
      exec (.g2Mov a b) s = .next { s with h := s.h.set a ⟨true, P⟩, pc := s.pc + 1 } ∧
      exec (.g2Dbl a b) s = .next { s with h := s.h.set a ⟨true, Proj.add curveFp2 P P⟩, pc := s.pc + 1 } ∧
      exec (.g2Neg a b) s = .next { s with h := s.h.set a ⟨true, ⟨P.x, Fp2.neg P.y, P.z⟩⟩, pc := s.pc + 1 } ∧
      (let neg (Q : G2Point) : G2Point := ⟨Q.x, Fp2.neg Q.y, Q.z⟩
       let D := Proj.add curveFp2 P P
       let t1 := neg (Proj.scale curveFp2 P 0xd201000000010000)
       let t2 : G2Point := ⟨Fp2.mul psiCx (Fp2.conj P.x), Fp2.mul psiCy (Fp2.conj P.y), Fp2.conj P.z⟩
       let t3 : G2Point := ⟨Fp2.mul psi2Cx D.x, Fp2.neg D.y, D.z⟩
       let t4 := Proj.add curveFp2 t3 (neg t2)
       let t5 := Proj.add curveFp2 t1 t2
       let t6 := neg (Proj.scale curveFp2 t5 0xd201000000010000)
       let t7 := Proj.add curveFp2 t4 t6
       let t8 := Proj.add curveFp2 t7 (neg t1)
       exec (.g2Clrcof a b) s =
         .next { s with h := s.h.set a ⟨true, Proj.add curveFp2 t8 (neg P)⟩, pc := s.pc + 1 }) ∧
      exec (.g2Psi a b) s = .next { s with h := s.h.set a ⟨true,
        ⟨Fp2.mul psiCx (Fp2.conj P.x), Fp2.mul psiCy (Fp2.conj P.y), Fp2.conj P.z⟩⟩, pc := s.pc + 1 } ∧
      exec (.g2Psi2 a b) s =
        .next { s with h := s.h.set a ⟨true, ⟨Fp2.mul psi2Cx P.x, Fp2.neg P.y, P.z⟩⟩, pc := s.pc + 1 }) ∧
    (∀ (a b c : HReg) P Q, s.h[b] = ⟨true, P⟩ → s.h[c] = ⟨true, Q⟩ →
      exec (.g2Add a b c) s = .next { s with h := s.h.set a ⟨true, Proj.add curveFp2 P Q⟩, pc := s.pc + 1 }) ∧
    (∀ (a b : HReg) (c : KReg) P n, s.h[b] = ⟨true, P⟩ → s.k[c] = ⟨true, n⟩ →
      exec (.g2Scale a b c) s =
        .next { s with h := s.h.set a ⟨true, Proj.scale curveFp2 P n.toNat⟩, pc := s.pc + 1 }) ∧
    (∀ (a : HReg) (b c : QReg) x y, s.q[b] = ⟨true, x⟩ → s.q[c] = ⟨true, y⟩ →
      exec (.g2Fromaff a b c) s = .next { s with
        h := s.h.set a ⟨true, if x = Fp2.zero ∧ y = Fp2.one then ⟨Fp2.zero, Fp2.one, Fp2.zero⟩
          else ⟨x, y, Fp2.one⟩⟩, pc := s.pc + 1 }) ∧
    (∀ (a : QReg) (b : HReg) (c : QReg) P, s.h[b] = ⟨true, P⟩ →
      (P.z = Fp2.zero → exec (.g2Toaff a b c) s = .next { s with
        q := (s.q.set a ⟨true, Fp2.zero⟩).set c ⟨true, Fp2.one⟩, pc := s.pc + 1 }) ∧
      (∀ zi, P.z ≠ Fp2.zero → Fp2.inv P.z = some zi → exec (.g2Toaff a b c) s = .next { s with
        q := (s.q.set a ⟨true, Fp2.mul P.x zi⟩).set c ⟨true, Fp2.mul P.y zi⟩, pc := s.pc + 1 })) ∧
    (∀ (a : HReg) (b c d : QReg) x y z, s.q[b] = ⟨true, x⟩ → s.q[c] = ⟨true, y⟩ → s.q[d] = ⟨true, z⟩ →
      exec (.g2Pack a b c d) s = .next { s with h := s.h.set a ⟨true, ⟨x, y, z⟩⟩, pc := s.pc + 1 }) ∧
    (∀ (a : QReg) (b : HReg) P, s.h[b] = ⟨true, P⟩ →
      exec (.g2Get a b 0) s = .next { s with q := s.q.set a ⟨true, P.x⟩, pc := s.pc + 1 } ∧
      exec (.g2Get a b 1) s = .next { s with q := s.q.set a ⟨true, P.y⟩, pc := s.pc + 1 } ∧
      exec (.g2Get a b 2) s = .next { s with q := s.q.set a ⟨true, P.z⟩, pc := s.pc + 1 })

/-- spec/45_g1.md R369, R370, R372, R396 to R398 and spec/46_g2.md R431 to R433: the tests of points. -/
def Obligations.PointTests : Prop :=
  ∀ s : State,
    (∀ (b c : GReg) P Q, s.g[b] = ⟨true, P⟩ → s.g[c] = ⟨true, Q⟩ →
      exec (.g1Eq b c) s = .next { s with
        tflag := decide (Fp.mul P.x Q.z = Fp.mul Q.x P.z ∧ Fp.mul P.y Q.z = Fp.mul Q.y P.z), pc := s.pc + 1 } ∧
      exec (.g1Iszero b) s = .next { s with tflag := decide (P.z.val = 0), pc := s.pc + 1 } ∧
      exec (.g1Isvalid b) s = .next { s with
        tflag := decide (P.y.val ^ 2 * P.z.val % Config.p = (P.x.val ^ 3 + 4 * P.z.val ^ 3) % Config.p),
        pc := s.pc + 1 }) ∧
    (∀ (b c : HReg) P Q, s.h[b] = ⟨true, P⟩ → s.h[c] = ⟨true, Q⟩ →
      exec (.g2Eq b c) s = .next { s with
        tflag := decide (Fp2.mul P.x Q.z = Fp2.mul Q.x P.z ∧ Fp2.mul P.y Q.z = Fp2.mul Q.y P.z),
        pc := s.pc + 1 } ∧
      exec (.g2Iszero b) s = .next { s with tflag := decide (P.z = Fp2.zero), pc := s.pc + 1 } ∧
      exec (.g2Isvalid b) s = .next { s with
        tflag := decide (Fp2.mul (Fp2.mul P.y P.y) P.z = Fp2.add (Fp2.mul (Fp2.mul P.x P.x) P.x)
          (Fp2.mul ⟨Fp.ofNat 4, Fp.ofNat 4⟩ (Fp2.mul (Fp2.mul P.z P.z) P.z))),
        pc := s.pc + 1 })

/-- spec/47_pairing.md R461, R467, R469, R475 to R477: the pairing instructions on operands they accept. The affine
points are those the triples stand for; the Miller loop on them is in `MillerLoop`. -/
def Obligations.PairingResults : Prop :=
  ∀ s : State,
    (∀ (a : TReg) (b : GReg) (c : HReg) P Q, s.g[b] = ⟨true, P⟩ → s.h[c] = ⟨true, Q⟩ →
      P.z.val ≠ 0 → Q.z ≠ Fp2.zero → Proj.isValid curveFp P = true → Proj.isValid curveFp2 Q = true →
      exec (.miller a b c) s = .next { s with t := s.t.set a ⟨true, Pairing.millerAffine
        (Proj.toAffine curveFp P).1 (Proj.toAffine curveFp P).2
        (Proj.toAffine curveFp2 Q).1 (Proj.toAffine curveFp2 Q).2⟩, pc := s.pc + 1 }) ∧
    (∀ (P : G1Point) x y, P.z.val ≠ 0 → P.x = Fp.mul x P.z → P.y = Fp.mul y P.z →
      Proj.toAffine curveFp P = (x, y)) ∧
    (∀ (Q : G2Point) x y, Q.z ≠ Fp2.zero → Q.x = Fp2.mul x Q.z → Q.y = Fp2.mul y Q.z →
      Proj.toAffine curveFp2 Q = (x, y)) ∧
    (∀ (a b : TReg) x, s.t[b] = ⟨true, x⟩ → x ≠ Fp12.zero →
      exec (.finalExp a b) s = .next { s with
        t := s.t.set a ⟨true, Fp12.pow x ((Config.p ^ 12 - 1) / orderR)⟩, pc := s.pc + 1 } ∧
      exec (.finalVerify b) s = .next { s with
        tflag := decide (Fp12.pow x ((Config.p ^ 12 - 1) / orderR) = Fp12.one), pc := s.pc + 1 })

/-- spec/47_pairing.md R462 to R466: `precompute` emits 68 triples, and the Miller loop is the 63 passes over the bits
62 down to 0 of `X` from `f = 1` and `R = Q`, conjugated. The lines, the two steps and the pass are written out by
coordinates in `lineAt`, `doubleAt`, `addAt` and `millerPass`. -/
def Obligations.MillerLoop : Prop :=
  ∀ (px py : Fp) (qx qy : Fp2),
    (Pairing.precompute qx qy).length = 68 ∧
    Pairing.millerAffine px py qx qy =
      Fp12.conj ((List.range 63).reverse.foldl (millerPass px py qx qy) (Fp12.one, ⟨qx, qy, Fp2.one⟩)).1

/-- spec/47_pairing.md R461, R467, R475 to R477: where the pairing instructions fault, zero before invalid and the G1
operand before the G2 operand. -/
def Obligations.PairingFaults : Prop :=
  ∀ s : State,
    (∀ (a : TReg) (b : GReg) (c : HReg) P Q, s.g[b] = ⟨true, P⟩ → s.h[c] = ⟨true, Q⟩ →
      (P.z.val = 0 → exec (.miller a b c) s = .next (s.faultedWith 12 1)) ∧
      (P.z.val ≠ 0 → Q.z = Fp2.zero → exec (.miller a b c) s = .next (s.faultedWith 12 2)) ∧
      (P.z.val ≠ 0 → Q.z ≠ Fp2.zero → Proj.isValid curveFp P = false →
        exec (.miller a b c) s = .next (s.faultedWith 13 1)) ∧
      (P.z.val ≠ 0 → Q.z ≠ Fp2.zero → Proj.isValid curveFp P = true → Proj.isValid curveFp2 Q = false →
        exec (.miller a b c) s = .next (s.faultedWith 13 2))) ∧
    (∀ a b : TReg, s.t[b] = ⟨true, Fp12.zero⟩ →
      exec (.finalExp a b) s = .next (s.faultedWith 6 0) ∧ exec (.finalVerify b) s = .next (s.faultedWith 6 0))

/-- spec/40_control.md R135, spec/41_fp.md R170, spec/20_memory.md R63, R64, R68: the effective address, and the loads
of 48 bytes in range. -/
def Obligations.IntegerAndFpLoads : Prop :=
  ∀ (s : State) (b : AReg) (imm : BitVec 16),
    s.ea b imm = (if b = 0 then 0 else s.a[b].toNat) + imm.toNat ∧
    (s.ea b imm + 48 ≤ s.sizes.dmemBytes →
      (∀ a, exec (.kLd a b imm) s = .next { s with
        k := s.k.set a ⟨true, BitVec.ofNat 384 (s.group (s.ea b imm) 0)⟩, pc := s.pc + 1 }) ∧
      (s.group (s.ea b imm) 0 < 256 ^ 48) ∧
      (s.group (s.ea b imm) 0 < Config.p → ∀ a, exec (.fpLd a b imm) s = .next { s with
        f := s.f.set a ⟨true, Fp.ofNat (s.group (s.ea b imm) 0)⟩, pc := s.pc + 1 }) ∧
      (Config.p ≤ s.group (s.ea b imm) 0 → ∀ a, exec (.fpLd a b imm) s =
        .next (s.faultedWith 5 (s.ea b imm))))

/-- spec/42_fp2.md R220, spec/43_fp6.md R270, spec/44_fp12.md R330, spec/20_memory.md R65, spec/60_exceptions.md R526:
the tower loads in range: the element whose flattening the groups spell, or `FP_RANGE` at the first group that is not
below `p`. -/
def Obligations.TowerLoads : Prop :=
  ∀ (s : State) (b : AReg) (imm : BitVec 16),
    (∀ a, s.ea b imm + 96 ≤ s.sizes.dmemBytes →
      ((∀ j < 2, s.group (s.ea b imm) j < Config.p) →
        ∃ x, flatFp2 x = (List.range 2).map (s.group (s.ea b imm)) ∧
          exec (.fp2Ld a b imm) s = .next { s with q := s.q.set a ⟨true, x⟩, pc := s.pc + 1 }) ∧
      (∀ j < 2, Config.p ≤ s.group (s.ea b imm) j → (∀ i < j, s.group (s.ea b imm) i < Config.p) →
        exec (.fp2Ld a b imm) s = .next (s.faultedWith 5 (s.ea b imm + 48 * j)))) ∧
    (∀ a, s.ea b imm + 288 ≤ s.sizes.dmemBytes →
      ((∀ j < 6, s.group (s.ea b imm) j < Config.p) →
        ∃ x, flatFp6 x = (List.range 6).map (s.group (s.ea b imm)) ∧
          exec (.fp6Ld a b imm) s = .next { s with s := s.s.set a ⟨true, x⟩, pc := s.pc + 1 }) ∧
      (∀ j < 6, Config.p ≤ s.group (s.ea b imm) j → (∀ i < j, s.group (s.ea b imm) i < Config.p) →
        exec (.fp6Ld a b imm) s = .next (s.faultedWith 5 (s.ea b imm + 48 * j)))) ∧
    (∀ a, s.ea b imm + 576 ≤ s.sizes.dmemBytes →
      ((∀ j < 12, s.group (s.ea b imm) j < Config.p) →
        ∃ x, flatFp12 x = (List.range 12).map (s.group (s.ea b imm)) ∧
          exec (.fp12Ld a b imm) s = .next { s with t := s.t.set a ⟨true, x⟩, pc := s.pc + 1 }) ∧
      (∀ j < 12, Config.p ≤ s.group (s.ea b imm) j → (∀ i < j, s.group (s.ea b imm) i < Config.p) →
        exec (.fp12Ld a b imm) s = .next (s.faultedWith 5 (s.ea b imm + 48 * j))))

/-- spec/40_control.md R136, spec/41_fp.md R171, spec/42_fp2.md R221, spec/43_fp6.md R271, spec/44_fp12.md R331,
spec/48_codec.md R501, R503, spec/20_memory.md R63 to R65: the stores in range write the big-endian picture at the
effective address, and nothing else. -/
def Obligations.Stores : Prop :=
  ∀ (s : State) (b : AReg) (imm : BitVec 16),
    (∀ (a : KReg) n, s.k[a] = ⟨true, n⟩ → s.ea b imm + 48 ≤ s.sizes.dmemBytes →
      ∃ t, exec (.kSt a b imm) s = .next t ∧ storesOnly s t (s.ea b imm) 48 (pictureByte [n.toNat])) ∧
    (∀ (a : FReg) x, s.f[a] = ⟨true, x⟩ → s.ea b imm + 48 ≤ s.sizes.dmemBytes →
      ∃ t, exec (.fpSt a b imm) s = .next t ∧ storesOnly s t (s.ea b imm) 48 (pictureByte [x.val])) ∧
    (∀ (a : QReg) x, s.q[a] = ⟨true, x⟩ → s.ea b imm + 96 ≤ s.sizes.dmemBytes →
      ∃ t, exec (.fp2St a b imm) s = .next t ∧ storesOnly s t (s.ea b imm) 96 (pictureByte (flatFp2 x))) ∧
    (∀ (a : SReg) x, s.s[a] = ⟨true, x⟩ → s.ea b imm + 288 ≤ s.sizes.dmemBytes →
      ∃ t, exec (.fp6St a b imm) s = .next t ∧ storesOnly s t (s.ea b imm) 288 (pictureByte (flatFp6 x))) ∧
    (∀ (a : TReg) x, s.t[a] = ⟨true, x⟩ → s.ea b imm + 576 ≤ s.sizes.dmemBytes →
      ∃ t, exec (.fp12St a b imm) s = .next t ∧ storesOnly s t (s.ea b imm) 576 (pictureByte (flatFp12 x))) ∧
    (∀ (a : GReg) P, s.g[a] = ⟨true, P⟩ → s.ea b imm + 48 ≤ s.sizes.dmemBytes →
      ∃ t, exec (.g1Enc a b imm) s = .next t ∧
        storesOnly s t (s.ea b imm) 48 (fun m => (Codec.encodeG1 P).getD m 0)) ∧
    (∀ (a : HReg) P, s.h[a] = ⟨true, P⟩ → s.ea b imm + 96 ≤ s.sizes.dmemBytes →
      ∃ t, exec (.g2Enc a b imm) s = .next t ∧
        storesOnly s t (s.ea b imm) 96 (fun m => (Codec.encodeG2 P).getD m 0))

/-- spec/48_codec.md R500, R502 and spec/60_exceptions.md R535: a decode checks the length, then the range, then
decodes the bytes; on success it writes its point register and nothing else. -/
def Obligations.PointDecodes : Prop :=
  ∀ (s : State) (b c : AReg) (imm : BitVec 12),
    (∀ a, (s.readA c).toNat ≠ 48 → exec (.g1Dec a b c imm) s = .next (s.faultedWith 8 (s.readA c).toNat)) ∧
    (∀ a, (s.readA c).toNat = 48 → s.sizes.dmemBytes < s.ea b imm + 48 →
      exec (.g1Dec a b c imm) s = .next (s.faultedWith 3 (s.ea b imm))) ∧
    (∀ a, (s.readA c).toNat = 48 → s.ea b imm + 48 ≤ s.sizes.dmemBytes →
      (∀ P, Codec.decodeG1 ((List.range 48).map fun i => s.dmemByte (s.ea b imm + i)) = .ok P →
        exec (.g1Dec a b c imm) s = .next { s with g := s.g.set a ⟨true, P⟩, pc := s.pc + 1 }) ∧
      (∀ e, Codec.decodeG1 ((List.range 48).map fun i => s.dmemByte (s.ea b imm + i)) = .error e →
        exec (.g1Dec a b c imm) s = .next (s.faultedWith e.cause.code e.info))) ∧
    (∀ a, (s.readA c).toNat ≠ 96 → exec (.g2Dec a b c imm) s = .next (s.faultedWith 8 (s.readA c).toNat)) ∧
    (∀ a, (s.readA c).toNat = 96 → s.sizes.dmemBytes < s.ea b imm + 96 →
      exec (.g2Dec a b c imm) s = .next (s.faultedWith 3 (s.ea b imm))) ∧
    (∀ a, (s.readA c).toNat = 96 → s.ea b imm + 96 ≤ s.sizes.dmemBytes →
      (∀ P, Codec.decodeG2 ((List.range 96).map fun i => s.dmemByte (s.ea b imm + i)) = .ok P →
        exec (.g2Dec a b c imm) s = .next { s with h := s.h.set a ⟨true, P⟩, pc := s.pc + 1 }) ∧
      (∀ e, Codec.decodeG2 ((List.range 96).map fun i => s.dmemByte (s.ea b imm + i)) = .error e →
        exec (.g2Dec a b c imm) s = .next (s.faultedWith e.cause.code e.info)))

/-! ### The codec and the arithmetic behind the instructions -/

/-- spec/48_codec.md R490 to R494: what the 48 bytes of a G1 encoding and the 96 bytes of a G2 encoding must say, the
header bits by position, `x` in G1 as the integer of the other 381 bits (`32 · 256^47 = 2^381`), in G2 `c0` as that of
the first 48 bytes without the header and `c1` as that of the last 48, all bits. -/
def Obligations.DecodeHeaderAndRange : Prop :=
  (∀ buf : List (BitVec 8), buf.length = 48 →
    ((buf.headD 0).getLsbD 7 = false → Codec.decodeG1 buf = .error ⟨.fmtHeader, (buf.headD 0).toNat⟩) ∧
    ((buf.headD 0).getLsbD 7 = true → (buf.headD 0).getLsbD 6 = true →
      (fromBe buf = 0xC0 * 256 ^ 47 →
        Codec.decodeG1 buf = .ok ⟨Fp.ofNat 0, Fp.ofNat 1, Fp.ofNat 0⟩) ∧
      (fromBe buf ≠ 0xC0 * 256 ^ 47 → Codec.decodeG1 buf = .error ⟨.fmtHeader, (buf.headD 0).toNat⟩)) ∧
    ((buf.headD 0).getLsbD 7 = true → (buf.headD 0).getLsbD 6 = false →
      (fromBe buf % (32 * 256 ^ 47) = 0 ∨ Config.p ≤ fromBe buf % (32 * 256 ^ 47) →
        Codec.decodeG1 buf = .error ⟨.decXrange, 0⟩) ∧
      (∀ x : Fp, fromBe buf % (32 * 256 ^ 47) = x.val → x.val ≠ 0 →
        (Fp.sqrt (Fp.ofNat (x.val ^ 3 + 4)) = none → Codec.decodeG1 buf = .error ⟨.decNotOnCurve, 0⟩) ∧
        (∀ y, Fp.sqrt (Fp.ofNat (x.val ^ 3 + 4)) = some y →
          Codec.decodeG1 buf = .ok ⟨x, if Fp.big y = (buf.headD 0).getLsbD 5 then y else Fp.neg y, Fp.ofNat 1⟩)))) ∧
  (∀ buf : List (BitVec 8), buf.length = 96 →
    ((buf.headD 0).getLsbD 7 = false → Codec.decodeG2 buf = .error ⟨.fmtHeader, (buf.headD 0).toNat⟩) ∧
    ((buf.headD 0).getLsbD 7 = true → (buf.headD 0).getLsbD 6 = true →
      (fromBe buf = 0xC0 * 256 ^ 95 → Codec.decodeG2 buf = .ok ⟨Fp2.zero, Fp2.one, Fp2.zero⟩) ∧
      (fromBe buf ≠ 0xC0 * 256 ^ 95 → Codec.decodeG2 buf = .error ⟨.fmtHeader, (buf.headD 0).toNat⟩)) ∧
    ((buf.headD 0).getLsbD 7 = true → (buf.headD 0).getLsbD 6 = false → ∀ n0 n1 : Nat,
      n0 = fromBe buf / 256 ^ 48 % (32 * 256 ^ 47) → n1 = fromBe buf % 256 ^ 48 →
      (Config.p ≤ n0 ∨ Config.p ≤ n1 ∨ (n0 = 0 ∧ n1 = 0) → Codec.decodeG2 buf = .error ⟨.decXrange, 0⟩) ∧
      (∀ x y2 : Fp2, n0 = x.c0.val → n1 = x.c1.val → x ≠ Fp2.zero →
        y2 = Fp2.add (Fp2.mul (Fp2.mul x x) x) ⟨Fp.ofNat 4, Fp.ofNat 4⟩ →
        (Fp2.sqrt y2 = none → Codec.decodeG2 buf = .error ⟨.decNotOnCurve, 0⟩) ∧
        (∀ y, Fp2.sqrt y2 = some y → Codec.decodeG2 buf =
          .ok ⟨x, if Fp2.big y = (buf.headD 0).getLsbD 5 then y else Fp2.neg y, Fp2.one⟩))))

/-- spec/48_codec.md R491, R492, R495: what the encoders give for any triple: the identity's bytes where `z` is zero,
else the big-endian affine `x` with the compression bit (`128 · 256^47 = 2^383`) and, where the affine `y` is big, the
sign bit (`32 · 256^47`). The affine coordinates are those that times `z` are the triple's. -/
def Obligations.EncodedPoints : Prop :=
  (∀ P : G1Point,
    (P.z.val = 0 → Codec.encodeG1 P = 0xC0 :: List.replicate 47 0) ∧
    (∀ x y : Fp, P.z.val ≠ 0 → P.x = Fp.mul x P.z → P.y = Fp.mul y P.z →
      Codec.encodeG1 P =
        beBytes 48 (x.val + 128 * 256 ^ 47 + if Config.p < 2 * y.val then 32 * 256 ^ 47 else 0))) ∧
  (∀ P : G2Point,
    (P.z = Fp2.zero → Codec.encodeG2 P = 0xC0 :: List.replicate 95 0) ∧
    (∀ x y : Fp2, P.z ≠ Fp2.zero → P.x = Fp2.mul x P.z → P.y = Fp2.mul y P.z →
      Codec.encodeG2 P =
        beBytes 48 (x.c0.val + 128 * 256 ^ 47 +
          if Config.p < 2 * (if y.c1.val = 0 then y.c0.val else y.c1.val) then 32 * 256 ^ 47 else 0) ++
        beBytes 48 x.c1.val))

/-- spec/48_codec.md R493, R494: a decoded point is on its curve and, unless it is the identity, its `y` has the sign
asked for or is zero. -/
def Obligations.DecodedPointsAreOnTheCurve : Prop :=
  (∀ buf P, Codec.decodeG1 buf = .ok P → Proj.isValid curveFp P = true ∧
    (Codec.infinite (buf.headD 0) = false → P.y.val ≠ 0 → Fp.big P.y = Codec.signed (buf.headD 0))) ∧
  (∀ buf P, Codec.decodeG2 buf = .ok P → Proj.isValid curveFp2 P = true ∧
    (Codec.infinite (buf.headD 0) = false → P.y ≠ Fp2.zero → Fp2.big P.y = Codec.signed (buf.headD 0)))

/-- spec/48_codec.md R496, `encode(decode(E)) == E`: a G1 encoding that decodes is the encoding of what it decodes to.
The case `y = 0`, which no point of the curve has (spec/45_g1.md R364, from general knowledge), is left out. -/
def Obligations.EncodeOfDecodedG1 : Prop :=
  ∀ (buf : List (BitVec 8)) (P : G1Point), buf.length = 48 → Codec.decodeG1 buf = .ok P → P.y.val ≠ 0 →
    Codec.encodeG1 P = buf

/-- spec/42_fp2.md R205: a power is the product of that many copies. -/
def Obligations.Fp2PowersAreProducts : Prop :=
  ∀ (x : Fp2) (e : Nat), Fp2.pow x e = (List.replicate e x).foldl Fp2.mul Fp2.one

/-- spec/43_fp6.md R255 and spec/44_fp12.md R305: a power is the product of that many copies. -/
def Obligations.UpperTowerPowersAreProducts : Prop :=
  (∀ (x : Fp6) (e : Nat), Fp6.pow x e = (List.replicate e x).foldl Fp6.mul Fp6.one) ∧
  (∀ (x : Fp12) (e : Nat), Fp12.pow x e = (List.replicate e x).foldl Fp12.mul Fp12.one)

/-- spec/45_g1.md R367: the closed form of the addition, over Fp and over Fp2. -/
def Obligations.AdditionClosedForm : Prop :=
  (∀ (P Q : G1Point) (t0 t1 t2 t3 t4 t5 c d : Fp),
    t0 = Fp.mul P.x Q.x → t1 = Fp.mul P.y Q.y → t2 = Fp.mul P.z Q.z →
    t3 = Fp.add (Fp.mul P.x Q.y) (Fp.mul Q.x P.y) → t4 = Fp.add (Fp.mul P.x Q.z) (Fp.mul Q.x P.z) →
    t5 = Fp.add (Fp.mul P.y Q.z) (Fp.mul Q.y P.z) → c = Fp.scale t2 12 → d = Fp.scale t4 12 →
    Proj.add curveFp P Q =
      ⟨Fp.sub (Fp.mul t3 (Fp.sub t1 c)) (Fp.mul t5 d),
       Fp.add (Fp.mul (Fp.sub t1 c) (Fp.add t1 c)) (Fp.mul (Fp.scale t0 3) d),
       Fp.add (Fp.mul t5 (Fp.add t1 c)) (Fp.mul (Fp.scale t0 3) t3)⟩) ∧
  (∀ (P Q : G2Point) (t0 t1 t2 t3 t4 t5 c d : Fp2),
    t0 = Fp2.mul P.x Q.x → t1 = Fp2.mul P.y Q.y → t2 = Fp2.mul P.z Q.z →
    t3 = Fp2.add (Fp2.mul P.x Q.y) (Fp2.mul Q.x P.y) → t4 = Fp2.add (Fp2.mul P.x Q.z) (Fp2.mul Q.x P.z) →
    t5 = Fp2.add (Fp2.mul P.y Q.z) (Fp2.mul Q.y P.z) →
    c = Fp2.mul ⟨Fp.ofNat 12, Fp.ofNat 12⟩ t2 → d = Fp2.mul ⟨Fp.ofNat 12, Fp.ofNat 12⟩ t4 →
    Proj.add curveFp2 P Q =
      ⟨Fp2.sub (Fp2.mul t3 (Fp2.sub t1 c)) (Fp2.mul t5 d),
       Fp2.add (Fp2.mul (Fp2.sub t1 c) (Fp2.add t1 c)) (Fp2.mul (Fp2.scale t0 3) d),
       Fp2.add (Fp2.mul t5 (Fp2.add t1 c)) (Fp2.mul (Fp2.scale t0 3) t3)⟩)

/-- spec/45_g1.md R371: the recursion that fixes the triple of a scalar multiple, over Fp and over Fp2. -/
def Obligations.ScaleRecursion : Prop :=
  (∀ P : G1Point, Proj.scale curveFp P 0 = ⟨Fp.ofNat 0, Fp.ofNat 1, Fp.ofNat 0⟩ ∧ Proj.scale curveFp P 1 = P ∧
    ∀ (n : Nat) (S : G1Point), 1 ≤ n → S = Proj.scale curveFp P n →
      Proj.scale curveFp P (2 * n) = Proj.add curveFp S S ∧
      Proj.scale curveFp P (2 * n + 1) = Proj.add curveFp (Proj.add curveFp S S) P) ∧
  (∀ P : G2Point, Proj.scale curveFp2 P 0 = ⟨Fp2.zero, Fp2.one, Fp2.zero⟩ ∧ Proj.scale curveFp2 P 1 = P ∧
    ∀ (n : Nat) (S : G2Point), 1 ≤ n → S = Proj.scale curveFp2 P n →
      Proj.scale curveFp2 P (2 * n) = Proj.add curveFp2 S S ∧
      Proj.scale curveFp2 P (2 * n + 1) = Proj.add curveFp2 (Proj.add curveFp2 S S) P)

/-- spec/46_g2.md R411 to R413: the constants are the inverses of the powers of `ξ = (1, 1)` that define them, and
psi2 is psi twice (marked derived there). -/
def Obligations.PsiTwiceIsPsi2 : Prop :=
  Fp2.mul psiCx (Fp2.pow ⟨Fp.ofNat 1, Fp.ofNat 1⟩ ((Config.p - 1) / 3)) = Fp2.one ∧
  Fp2.mul psiCy (Fp2.pow ⟨Fp.ofNat 1, Fp.ofNat 1⟩ ((Config.p - 1) / 2)) = Fp2.one ∧
  Fp2.mul psi2Cx (Fp2.pow ⟨Fp.ofNat 1, Fp.ofNat 1⟩ ((Config.p ^ 2 - 1) / 3)) = Fp2.one ∧
  ∀ P : G2Point, G2Point.psi2 P = ⟨Fp2.mul psi2Cx P.x, Fp2.neg P.y, P.z⟩ ∧
    G2Point.psi2 P = G2Point.psi (G2Point.psi P)

/-- spec/44_fp12.md R309, R315 to R317: the Frobenius map by coordinates for every exponent, its coefficients as the
powers of `ξ = (1, 1)` that define them (R316); that of exponent 0 is the identity, of exponent 6 the conjugate, and
the conjugate undoes itself. -/
def Obligations.FrobeniusMap : Prop :=
  (∀ x : Fp12, Fp12.powp x 0 = x ∧ Fp12.powp x 6 = Fp12.conj x ∧ Fp12.conj (Fp12.conj x) = x) ∧
  (∀ (x : Fp12) (n : Nat) (g1 g2 g : Fp2), n ≤ 11 →
    g1 = Fp2.pow ⟨Fp.ofNat 1, Fp.ofNat 1⟩ ((Config.p ^ (n % 6) - 1) / 3) →
    g2 = Fp2.pow ⟨Fp.ofNat 1, Fp.ofNat 1⟩ (2 * (Config.p ^ (n % 6) - 1) / 3) →
    g = Fp2.pow ⟨Fp.ofNat 1, Fp.ofNat 1⟩ ((Config.p ^ n - 1) / 6) →
    Fp12.powp x n =
      ⟨⟨conjugateIfOdd n x.c0.c0, Fp2.mul (conjugateIfOdd n x.c0.c1) g1, Fp2.mul (conjugateIfOdd n x.c0.c2) g2⟩,
       ⟨Fp2.mul (conjugateIfOdd n x.c1.c0) g, Fp2.mul (Fp2.mul (conjugateIfOdd n x.c1.c1) g1) g,
        Fp2.mul (Fp2.mul (conjugateIfOdd n x.c1.c2) g2) g⟩⟩)

/-- spec/20_memory.md R63: `be_N` and `from_be` undo each other, and byte `i` is the one the rule says. -/
def Obligations.BigEndianRoundTrip : Prop :=
  (∀ n v : Nat, v < 256 ^ n → (beBytes n v).length = n ∧ fromBe (beBytes n v) = v) ∧
  (∀ bytes : List (BitVec 8), beBytes bytes.length (fromBe bytes) = bytes) ∧
  (∀ v i : Nat, i < 48 → (beBytes 48 v)[i]? = some (BitVec.ofNat 8 (v / 2 ^ (8 * (47 - i)) % 256)))

/-- spec/20_memory.md R64, R65, R73: an integer or a field element of any level stored and loaded again at the same
address is the same. -/
def Obligations.LoadAfterStore : Prop :=
  ∀ (s : State) (b : AReg) (imm : BitVec 16),
    (∀ (a c : KReg) n, s.k[a] = ⟨true, n⟩ → s.ea b imm + 48 ≤ s.sizes.dmemBytes →
      ∃ t u, exec (.kSt a b imm) s = .next t ∧ exec (.kLd c b imm) t = .next u ∧ u.k[c] = ⟨true, n⟩) ∧
    (∀ (a c : FReg) x, s.f[a] = ⟨true, x⟩ → s.ea b imm + 48 ≤ s.sizes.dmemBytes →
      ∃ t u, exec (.fpSt a b imm) s = .next t ∧ exec (.fpLd c b imm) t = .next u ∧ u.f[c] = ⟨true, x⟩) ∧
    (∀ (a c : QReg) x, s.q[a] = ⟨true, x⟩ → s.ea b imm + 96 ≤ s.sizes.dmemBytes →
      ∃ t u, exec (.fp2St a b imm) s = .next t ∧ exec (.fp2Ld c b imm) t = .next u ∧ u.q[c] = ⟨true, x⟩) ∧
    (∀ (a c : SReg) x, s.s[a] = ⟨true, x⟩ → s.ea b imm + 288 ≤ s.sizes.dmemBytes →
      ∃ t u, exec (.fp6St a b imm) s = .next t ∧ exec (.fp6Ld c b imm) t = .next u ∧ u.s[c] = ⟨true, x⟩) ∧
    (∀ (a c : TReg) x, s.t[a] = ⟨true, x⟩ → s.ea b imm + 576 ≤ s.sizes.dmemBytes →
      ∃ t u, exec (.fp12St a b imm) s = .next t ∧ exec (.fp12Ld c b imm) t = .next u ∧ u.t[c] = ⟨true, x⟩)

/-! ### Faults -/

/-- spec/60_exceptions.md R527, R535 and spec/40_control.md R120: an instruction with a source register that is not
valid reports the one in the earliest field, before anything else can fault. -/
def Obligations.UninitializedSourceFaults : Prop :=
  ∀ (i : Instr) (s : State) (before after : List (ValueFile × Nat)) (r : ValueFile × Nat),
    valueSources i = before ++ r :: after → (∀ x ∈ before, s.isValid x = true) → s.isValid r = false →
    exec i s = .next (s.faultedWith 4 (r.1.code * 16 + r.2))

/-- spec/60_exceptions.md R525 and spec/20_memory.md R68: an access that ends beyond DMEM reports the address of its
first byte. The decodes are in `PointDecodes`. -/
def Obligations.AccessBeyondDmemFaults : Prop :=
  ∀ (s : State) (b : AReg) (imm : BitVec 16),
    (s.sizes.dmemBytes < s.ea b imm + 48 →
      (∀ a, exec (.kLd a b imm) s = .next (s.faultedWith 3 (s.ea b imm))) ∧
      (∀ a, exec (.fpLd a b imm) s = .next (s.faultedWith 3 (s.ea b imm))) ∧
      (∀ a : KReg, s.k[a].valid = true → exec (.kSt a b imm) s = .next (s.faultedWith 3 (s.ea b imm))) ∧
      (∀ a : FReg, s.f[a].valid = true → exec (.fpSt a b imm) s = .next (s.faultedWith 3 (s.ea b imm))) ∧
      (∀ a : GReg, s.g[a].valid = true → exec (.g1Enc a b imm) s = .next (s.faultedWith 3 (s.ea b imm)))) ∧
    (s.sizes.dmemBytes < s.ea b imm + 96 →
      (∀ a, exec (.fp2Ld a b imm) s = .next (s.faultedWith 3 (s.ea b imm))) ∧
      (∀ a : QReg, s.q[a].valid = true → exec (.fp2St a b imm) s = .next (s.faultedWith 3 (s.ea b imm))) ∧
      (∀ a : HReg, s.h[a].valid = true → exec (.g2Enc a b imm) s = .next (s.faultedWith 3 (s.ea b imm)))) ∧
    (s.sizes.dmemBytes < s.ea b imm + 288 →
      (∀ a, exec (.fp6Ld a b imm) s = .next (s.faultedWith 3 (s.ea b imm))) ∧
      (∀ a : SReg, s.s[a].valid = true → exec (.fp6St a b imm) s = .next (s.faultedWith 3 (s.ea b imm)))) ∧
    (s.sizes.dmemBytes < s.ea b imm + 576 →
      (∀ a, exec (.fp12Ld a b imm) s = .next (s.faultedWith 3 (s.ea b imm))) ∧
      (∀ a : TReg, s.t[a].valid = true → exec (.fp12St a b imm) s = .next (s.faultedWith 3 (s.ea b imm))))

/-- spec/60_exceptions.md R520, R521: a fault is precise. Whatever the instruction, all that a faulting one changes is
the three fault registers and `STATE`. -/
def Obligations.FaultsArePrecise : Prop :=
  ∀ (i : Instr) (s t : State), s.run ≠ .faulted → exec i s = .next t → t.run = .faulted →
    ∃ (code : BitVec 8) (info : Nat), 3 ≤ code.toNat ∧ code.toNat ≤ 14 ∧ t = s.faultedWith code info

/-- spec/60_exceptions.md R520, R536: after `CLRFAULT` and `START` with nothing else changed, the same instruction
raises the same fault. -/
def Obligations.FaultsRepeat : Prop :=
  ∀ (i : Instr) (s t : State), s.run = .running → exec i s = .next t → t.run = .faulted →
    exec i { t with run := .running, faultCause := 0, faultPc := 0, faultInfo := 0 } = .next t

/-! ### Whole-machine rules and frames -/

/-- spec/60_exceptions.md R520 and spec/70_reset_and_hazards.md R573: every instruction ends, in every state, in a
next state. -/
def Obligations.EveryInstructionEnds : Prop := ∀ (i : Instr) (s : State), ∃ t, exec i s = .next t

/-- spec/10_state.md R32: no instruction clears a valid bit, and one that does not fault sets those of its
destinations. -/
def Obligations.ValidBitsOnlyRise : Prop :=
  ∀ (i : Instr) (s t : State) (r : ValueFile × Nat), exec i s = .next t →
    (s.isValid r = true → t.isValid r = true) ∧
    (s.run ≠ .faulted → t.run ≠ .faulted → r ∈ valueDestinations i → t.isValid r = true)

/-- spec/10_state.md R32, R33 and spec/30_encoding.md R95: an instruction changes no value register but the
destinations its encoding names. -/
def Obligations.OnlyDestinationsChange : Prop :=
  ∀ (i : Instr) (s t : State), exec i s = .next t →
    (∀ j : KReg, (.k, j.val) ∉ valueDestinations i → t.k[j] = s.k[j]) ∧
    (∀ j : FReg, (.f, j.val) ∉ valueDestinations i → t.f[j] = s.f[j]) ∧
    (∀ j : QReg, (.q, j.val) ∉ valueDestinations i → t.q[j] = s.q[j]) ∧
    (∀ j : SReg, (.s, j.val) ∉ valueDestinations i → t.s[j] = s.s[j]) ∧
    (∀ j : TReg, (.t, j.val) ∉ valueDestinations i → t.t[j] = s.t[j]) ∧
    (∀ j : GReg, (.g, j.val) ∉ valueDestinations i → t.g[j] = s.g[j]) ∧
    (∀ j : HReg, (.h, j.val) ∉ valueDestinations i → t.h[j] = s.h[j])

/-- spec/10_state.md R23, R24: `T` is written by the tests alone, an address register by `A.LI`, `A.ADDI` and `JAL`
alone, and `a0` by nothing. -/
def Obligations.TestFlagAndAddressFrame : Prop :=
  ∀ (i : Instr) (s t : State), exec i s = .next t →
    (writesTest i = false → t.tflag = s.tflag) ∧
    (∀ j : AReg, addressDestination i ≠ some j → t.a[j] = s.a[j]) ∧ t.a[0] = s.a[0]

/-- spec/20_memory.md R61, R68 to R71: DMEM changes only in the bytes a store or an encode addresses. -/
def Obligations.OnlyStoredBytesChange : Prop :=
  ∀ (i : Instr) (s t : State) (x : Nat), exec i s = .next t →
    (∀ ea n, storeRange s i = some (ea, n) → x < ea ∨ ea + n ≤ x) → t.dmemByte x = s.dmemByte x

/-- spec/20_memory.md R60, R76 and spec/60_exceptions.md R541: no instruction changes IMEM or `IRQ_EN`, and one that
does not fault leaves the fault registers alone and `STATE` too, but for `HALT`. The model's own fields `sizes`,
`host` and `epoch` do not change either (log 1, log 2, log 6). -/
def Obligations.ProgramsCannotReachTheHostSide : Prop :=
  ∀ (i : Instr) (s t : State), exec i s = .next t →
    t.imem = s.imem ∧ t.haltIe = s.haltIe ∧ t.faultIe = s.faultIe ∧ t.sizes = s.sizes ∧ t.host = s.host ∧
    t.epoch = s.epoch ∧
    (t.run ≠ .faulted → t.faultCause = s.faultCause ∧ t.faultPc = s.faultPc ∧ t.faultInfo = s.faultInfo ∧
      (t.run = s.run ∨ i = .halt ∧ t.run = .halted))

/-- spec/40_control.md R121 and spec/60_exceptions.md R521: but for the jumps, an instruction goes on to
the next word or faults where it is. -/
def Obligations.PcGoesOnOrStays : Prop :=
  ∀ (i : Instr) (s t : State), isJump i = false → exec i s = .next t →
    t.pc = s.pc + 1 ∨ t.run = .faulted ∧ t.pc = s.pc ∧ t.faultPc = s.pc

/-- spec/10_state.md R45: but for `BT` and `BF`, what an instruction does to everything but `T` does not depend on
`T`. -/
def Obligations.OnlyBranchesDependOnT : Prop :=
  ∀ (i : Instr) (s t u : State) (v : Bool), (∀ off, i ≠ .bt off) → (∀ off, i ≠ .bf off) →
    exec i s = .next t → exec i { s with tflag := v } = .next u →
    { u with tflag := false } = { t with tflag := false }

/-! ### Invariant, reset and the host -/

/-- The invariant `State.Inv` (spec/10_state.md R24, R36, spec/20_memory.md R60, R61, spec/60_exceptions.md R522)
survives every step, the host's actions among them. Its clauses `dmemForm` and `imemForm`, the canonical form of the
two memories, are the model's choice (log 2, log 3). -/
def Obligations.StepKeepsInvariant : Prop := ∀ s t : State, s.Inv → step s = .next t → t.Inv

/-- The state after reset (spec/10_state.md R46) has the invariant. The canonical form of the memories (log 2, log 3)
and the sizes of `State.reset`, the defaults (log 1), are the model's choice. -/
def Obligations.ResetHasInvariant : Prop := State.reset.Inv

/-- spec/10_state.md R46, spec/70_reset_and_hazards.md R560, R561: what the spec says both resets leave, and what a
soft reset keeps. Each is reached by one step from every state in which the host does it. -/
def Obligations.ResetValues : Prop :=
  (∀ t : State, (t = State.reset ∨ (∃ s : State, t = s.softReset) ∨ (∃ s : State, t = s.hardReset)) →
    t.pc = 0 ∧ t.tflag = false ∧ (∀ j : AReg, t.a[j] = 0) ∧ (∀ r, t.isValid r = false) ∧ t.run = .idle ∧
    t.faultCause = 0 ∧ t.faultPc = 0 ∧ t.faultInfo = 0) ∧
  State.reset.irqEnable = 0 ∧
  (∀ (s : State) rest, s.host = .hardReset :: rest →
    ∃ t, step s = .next t ∧ t = { s with host := rest }.hardReset ∧ t.irqEnable = 0) ∧
  (∀ (s : State) (v : BitVec 32) rest, s.host = .writeReg 0x04 v :: rest → v.getLsbD 1 = true →
    ∃ t, step s = .next t ∧ t = { s with host := rest }.softReset ∧ t.irqEnable = s.irqEnable ∧
      (∀ x, t.dmemByte x = s.dmemByte x) ∧ (∀ x, t.imemWord x = s.imemWord x))

/-- spec/10_state.md R36: a write of `CTRL` without `SRESET`. Which of `START` and `CLRFAULT` counts when both are
written in FAULTED is the model's choice (log 9): both are judged in the state before the write, so `START` is
ignored. -/
def Obligations.ControlRegisterWrites : Prop :=
  ∀ (s : State) (v : BitVec 32) (rest : List HostAction), s.host = .writeReg 0x04 v :: rest →
    v.getLsbD 1 = false →
    (s.run = .idle ∨ s.run = .halted → v.getLsbD 0 = true →
      step s = .next { s with host := rest, run := .running }) ∧
    (s.run = .idle ∨ s.run = .halted → v.getLsbD 0 = false → step s = .next { s with host := rest }) ∧
    (s.run = .running → step s = .next { s with host := rest }) ∧
    (s.run = .faulted → v.getLsbD 2 = true → step s =
      .next { s with host := rest, run := .idle, faultCause := 0, faultPc := 0, faultInfo := 0 }) ∧
    (s.run = .faulted → v.getLsbD 2 = false → step s = .next { s with host := rest })

/-- spec/10_state.md R35, R37, R38, whole: `ID`, `STATUS` and `PC` as the host reads and writes them. Of R36 and R39 to
R41: `CTRL` reads 0, the fault registers read what is recorded, 0 where the machine is not FAULTED, and ignore
writes. -/
def Obligations.HostRegisters : Prop :=
  ∀ (s : State) (v : BitVec 32),
    s.hostReadReg 0x00 = some 0x424D0100 ∧ s.hostWriteReg 0x00 v = .next s ∧
    (∃ w : BitVec 32, s.hostReadReg 0x08 = some w ∧
      w.extractLsb' 0 2 = (match s.run with | .idle => 0 | .running => 1 | .halted => 2 | .faulted => 3) ∧
      w.getLsbD 2 = s.tflag ∧ (∀ j, 3 ≤ j → w.getLsbD j = false)) ∧
    s.hostWriteReg 0x08 v = .next s ∧
    (∃ w : BitVec 32, s.hostReadReg 0x0C = some w ∧ w.extractLsb' 0 16 = s.pc ∧
      (∀ j, 16 ≤ j → w.getLsbD j = false)) ∧
    (s.run ≠ .running → s.hostWriteReg 0x0C v = .next { s with pc := v.extractLsb' 0 16 }) ∧
    (s.run = .running → s.hostWriteReg 0x0C v = .next s) ∧
    s.hostReadReg 0x04 = some 0 ∧
    (∃ w : BitVec 32, s.hostReadReg 0x10 = some w ∧ w.extractLsb' 0 8 = s.faultCause ∧
      (∀ j, 8 ≤ j → w.getLsbD j = false)) ∧
    (∃ w : BitVec 32, s.hostReadReg 0x14 = some w ∧ w.extractLsb' 0 16 = s.faultPc ∧
      (∀ j, 16 ≤ j → w.getLsbD j = false)) ∧
    s.hostReadReg 0x18 = some s.faultInfo ∧
    s.hostWriteReg 0x10 v = .next s ∧ s.hostWriteReg 0x14 v = .next s ∧ s.hostWriteReg 0x18 v = .next s ∧
    (s.Inv → s.run ≠ .faulted →
      s.hostReadReg 0x10 = some 0 ∧ s.hostReadReg 0x14 = some 0 ∧ s.hostReadReg 0x18 = some 0)

/-- spec/10_state.md R42, whole: `IRQ_EN` and the line `irq`. -/
def Obligations.InterruptEnableAndLine : Prop :=
  (∀ (s : State) (v : BitVec 32),
    (∃ w : BitVec 32, s.hostReadReg 0x1C = some w ∧ w.getLsbD 0 = s.haltIe ∧ w.getLsbD 1 = s.faultIe ∧
      (∀ j, 2 ≤ j → w.getLsbD j = false)) ∧
    s.hostWriteReg 0x1C v = .next { s with haltIe := v.getLsbD 0, faultIe := v.getLsbD 1 } ∧
    (s.irq = true ↔ (s.haltIe = true ∧ s.run = .halted) ∨ (s.faultIe = true ∧ s.run = .faulted))) ∧
  State.reset.hostReadReg 0x1C = some 0

/-- spec/20_memory.md R62 and spec/10_state.md R43: a host write through a window is dropped in RUNNING and seen by
every later read otherwise. -/
def Obligations.HostWindows : Prop :=
  ∀ (s : State) (rest : List HostAction),
    (∀ a bytes, s.host = .writeDmem a bytes :: rest → s.run = .running → step s = .next { s with host := rest }) ∧
    (∀ i w, s.host = .writeImem i w :: rest → s.run = .running → step s = .next { s with host := rest }) ∧
    (∀ a bytes, s.host = .writeDmem a bytes :: rest → s.run ≠ .running → a + bytes.length ≤ s.sizes.dmemBytes →
      ∃ t, step s = .next t ∧ t = { s with host := rest, dmem := t.dmem } ∧ ∀ n x, x < s.sizes.dmemBytes →
        t.hostReadDmem n x = some (if a ≤ x ∧ x < a + bytes.length then bytes.getD (x - a) 0 else s.dmemByte x)) ∧
    (∀ i w, s.host = .writeImem i w :: rest → s.run ≠ .running → i < s.sizes.imemWords →
      ∃ t, step s = .next t ∧ t = { s with host := rest, imem := t.imem } ∧ ∀ n x, x < s.sizes.imemWords →
        t.hostReadImem n x = some (if x = i then w else s.imemWord x))
end

