-- ==== Sys2Proof/Laws/Decode.lean ====
section
/-! SUPPORT. Fields and words, and what decoding answers. -/

namespace Sys2Proof

@[simp] theorem Fields.ofWord_toWord (f : Fields) : Fields.ofWord f.toWord = f := by
  rcases f with ⟨op, a, b, c, d, fn⟩
  simp only [Fields.ofWord, Fields.toWord, Fields.mk.injEq]
  refine ⟨?_, ?_, ?_, ?_, ?_, ?_⟩ <;>
    (ext i hi; simp only [BitVec.getElem_extractLsb', BitVec.getLsbD_append]) <;>
    (repeat' split) <;> (first | omega | skip) <;>
    (rw [← BitVec.getLsbD_eq_getElem]; congr 1; omega)

@[simp] theorem Fields.toWord_ofWord (w : BitVec 32) : (Fields.ofWord w).toWord = w := by
  simp only [Fields.ofWord, Fields.toWord]
  ext i hi
  simp only [BitVec.getElem_append, BitVec.getElem_extractLsb']
  repeat' split
  all_goals
    rw [← BitVec.getLsbD_eq_getElem]
    congr 1
    omega

@[simp] theorem reg16_field16 (i : Fin 16) : reg16 (field16 i) = i := by
  revert i; decide

@[simp] theorem reg8_field8 (i : Fin 8) : reg8 (field8 i) = i := by
  revert i; decide

theorem field16_reg16 (x : BitVec 4) : field16 (reg16 x) = x := by
  revert x; decide

theorem field8_reg8 (x : BitVec 4) (h : Use.low8.ok x = true) : field8 (reg8 x) = x := by
  revert x; decide

@[simp] theorem fieldsI_imm16 (op : BitVec 8) (a b : BitVec 4) (imm : BitVec 16) :
    (fieldsI op a b imm).imm16 = imm := by
  simp only [fieldsI, Fields.imm16]
  ext i hi
  simp only [BitVec.getElem_append, BitVec.getElem_extractLsb']
  repeat' split
  all_goals
    rw [← BitVec.getLsbD_eq_getElem]
    congr 1
    omega

@[simp] theorem fieldsD_imm12 (op : BitVec 8) (a b c : BitVec 4) (imm : BitVec 12) :
    (fieldsD op a b c imm).imm12 = imm := by
  simp only [fieldsD, Fields.imm12]
  ext i hi
  simp only [BitVec.getElem_append, BitVec.getElem_extractLsb']
  repeat' split
  all_goals
    rw [← BitVec.getLsbD_eq_getElem]
    congr 1
    omega

theorem decode_eq_ok (w : BitVec 32) (i : Instr) :
    decode w = .ok i ↔ ∃ r, opcodeTable.find? (fun r => r.opcode == (Fields.ofWord w).op.toNat) = some r ∧
      r.fixedOk (Fields.ofWord w) = true ∧ (Fields.ofWord w).fn.toNat ≤ r.fnMax ∧
      r.build (Fields.ofWord w) = i := by
  unfold decode
  cases h : opcodeTable.find? (fun r => r.opcode == (Fields.ofWord w).op.toNat) with
  | none => simp
  | some r =>
    simp only [Option.some.injEq, exists_eq_left']
    by_cases h1 : r.fixedOk (Fields.ofWord w) = true
    · by_cases h2 : (Fields.ofWord w).fn.toNat ≤ r.fnMax
      · simp [h1, h2, Nat.not_lt.2 h2]
      · simp [h1, h2, Nat.lt_of_not_le h2]
    · simp [h1]

end Sys2Proof
end

