-- ==== Sys2Proof/Laws/State.lean ====
section
/-! SUPPORT. What each update of the state does to each field: one lemma per field per update. -/

namespace Sys2Proof.Machine

/-! ### `setK` -/

@[simp] theorem State.setK_pc (m : State) (i : KReg) (v : BitVec 384) : (m.setK i v).pc = m.pc := rfl
@[simp] theorem State.setK_tflag (m : State) (i : KReg) (v : BitVec 384) : (m.setK i v).tflag = m.tflag := rfl
@[simp] theorem State.setK_a (m : State) (i : KReg) (v : BitVec 384) : (m.setK i v).a = m.a := rfl
@[simp] theorem State.setK_k (m : State) (i : KReg) (v : BitVec 384) : (m.setK i v).k = setReg m.k i v := rfl
@[simp] theorem State.setK_f (m : State) (i : KReg) (v : BitVec 384) : (m.setK i v).f = m.f := rfl
@[simp] theorem State.setK_q (m : State) (i : KReg) (v : BitVec 384) : (m.setK i v).q = m.q := rfl
@[simp] theorem State.setK_s (m : State) (i : KReg) (v : BitVec 384) : (m.setK i v).s = m.s := rfl
@[simp] theorem State.setK_t (m : State) (i : KReg) (v : BitVec 384) : (m.setK i v).t = m.t := rfl
@[simp] theorem State.setK_g (m : State) (i : KReg) (v : BitVec 384) : (m.setK i v).g = m.g := rfl
@[simp] theorem State.setK_h (m : State) (i : KReg) (v : BitVec 384) : (m.setK i v).h = m.h := rfl
@[simp] theorem State.setK_run (m : State) (i : KReg) (v : BitVec 384) : (m.setK i v).run = m.run := rfl
@[simp] theorem State.setK_faultCause (m : State) (i : KReg) (v : BitVec 384) : (m.setK i v).faultCause = m.faultCause := rfl
@[simp] theorem State.setK_faultPc (m : State) (i : KReg) (v : BitVec 384) : (m.setK i v).faultPc = m.faultPc := rfl
@[simp] theorem State.setK_faultInfo (m : State) (i : KReg) (v : BitVec 384) : (m.setK i v).faultInfo = m.faultInfo := rfl
@[simp] theorem State.setK_haltIe (m : State) (i : KReg) (v : BitVec 384) : (m.setK i v).haltIe = m.haltIe := rfl
@[simp] theorem State.setK_faultIe (m : State) (i : KReg) (v : BitVec 384) : (m.setK i v).faultIe = m.faultIe := rfl
@[simp] theorem State.setK_imem (m : State) (i : KReg) (v : BitVec 384) : (m.setK i v).imem = m.imem := rfl
@[simp] theorem State.setK_dmem (m : State) (i : KReg) (v : BitVec 384) : (m.setK i v).dmem = m.dmem := rfl
@[simp] theorem State.setK_sizes (m : State) (i : KReg) (v : BitVec 384) : (m.setK i v).sizes = m.sizes := rfl
@[simp] theorem State.setK_host (m : State) (i : KReg) (v : BitVec 384) : (m.setK i v).host = m.host := rfl
@[simp] theorem State.setK_draws (m : State) (i : KReg) (v : BitVec 384) : (m.setK i v).draws = m.draws := rfl
@[simp] theorem State.setK_epoch (m : State) (i : KReg) (v : BitVec 384) : (m.setK i v).epoch = m.epoch := rfl

/-! ### `setF` -/

@[simp] theorem State.setF_pc (m : State) (i : FReg) (v : Fp) : (m.setF i v).pc = m.pc := rfl
@[simp] theorem State.setF_tflag (m : State) (i : FReg) (v : Fp) : (m.setF i v).tflag = m.tflag := rfl
@[simp] theorem State.setF_a (m : State) (i : FReg) (v : Fp) : (m.setF i v).a = m.a := rfl
@[simp] theorem State.setF_k (m : State) (i : FReg) (v : Fp) : (m.setF i v).k = m.k := rfl
@[simp] theorem State.setF_f (m : State) (i : FReg) (v : Fp) : (m.setF i v).f = setReg m.f i v := rfl
@[simp] theorem State.setF_q (m : State) (i : FReg) (v : Fp) : (m.setF i v).q = m.q := rfl
@[simp] theorem State.setF_s (m : State) (i : FReg) (v : Fp) : (m.setF i v).s = m.s := rfl
@[simp] theorem State.setF_t (m : State) (i : FReg) (v : Fp) : (m.setF i v).t = m.t := rfl
@[simp] theorem State.setF_g (m : State) (i : FReg) (v : Fp) : (m.setF i v).g = m.g := rfl
@[simp] theorem State.setF_h (m : State) (i : FReg) (v : Fp) : (m.setF i v).h = m.h := rfl
@[simp] theorem State.setF_run (m : State) (i : FReg) (v : Fp) : (m.setF i v).run = m.run := rfl
@[simp] theorem State.setF_faultCause (m : State) (i : FReg) (v : Fp) : (m.setF i v).faultCause = m.faultCause := rfl
@[simp] theorem State.setF_faultPc (m : State) (i : FReg) (v : Fp) : (m.setF i v).faultPc = m.faultPc := rfl
@[simp] theorem State.setF_faultInfo (m : State) (i : FReg) (v : Fp) : (m.setF i v).faultInfo = m.faultInfo := rfl
@[simp] theorem State.setF_haltIe (m : State) (i : FReg) (v : Fp) : (m.setF i v).haltIe = m.haltIe := rfl
@[simp] theorem State.setF_faultIe (m : State) (i : FReg) (v : Fp) : (m.setF i v).faultIe = m.faultIe := rfl
@[simp] theorem State.setF_imem (m : State) (i : FReg) (v : Fp) : (m.setF i v).imem = m.imem := rfl
@[simp] theorem State.setF_dmem (m : State) (i : FReg) (v : Fp) : (m.setF i v).dmem = m.dmem := rfl
@[simp] theorem State.setF_sizes (m : State) (i : FReg) (v : Fp) : (m.setF i v).sizes = m.sizes := rfl
@[simp] theorem State.setF_host (m : State) (i : FReg) (v : Fp) : (m.setF i v).host = m.host := rfl
@[simp] theorem State.setF_draws (m : State) (i : FReg) (v : Fp) : (m.setF i v).draws = m.draws := rfl
@[simp] theorem State.setF_epoch (m : State) (i : FReg) (v : Fp) : (m.setF i v).epoch = m.epoch := rfl

/-! ### `setQ` -/

@[simp] theorem State.setQ_pc (m : State) (i : QReg) (v : Fp2) : (m.setQ i v).pc = m.pc := rfl
@[simp] theorem State.setQ_tflag (m : State) (i : QReg) (v : Fp2) : (m.setQ i v).tflag = m.tflag := rfl
@[simp] theorem State.setQ_a (m : State) (i : QReg) (v : Fp2) : (m.setQ i v).a = m.a := rfl
@[simp] theorem State.setQ_k (m : State) (i : QReg) (v : Fp2) : (m.setQ i v).k = m.k := rfl
@[simp] theorem State.setQ_f (m : State) (i : QReg) (v : Fp2) : (m.setQ i v).f = m.f := rfl
@[simp] theorem State.setQ_q (m : State) (i : QReg) (v : Fp2) : (m.setQ i v).q = setReg m.q i v := rfl
@[simp] theorem State.setQ_s (m : State) (i : QReg) (v : Fp2) : (m.setQ i v).s = m.s := rfl
@[simp] theorem State.setQ_t (m : State) (i : QReg) (v : Fp2) : (m.setQ i v).t = m.t := rfl
@[simp] theorem State.setQ_g (m : State) (i : QReg) (v : Fp2) : (m.setQ i v).g = m.g := rfl
@[simp] theorem State.setQ_h (m : State) (i : QReg) (v : Fp2) : (m.setQ i v).h = m.h := rfl
@[simp] theorem State.setQ_run (m : State) (i : QReg) (v : Fp2) : (m.setQ i v).run = m.run := rfl
@[simp] theorem State.setQ_faultCause (m : State) (i : QReg) (v : Fp2) : (m.setQ i v).faultCause = m.faultCause := rfl
@[simp] theorem State.setQ_faultPc (m : State) (i : QReg) (v : Fp2) : (m.setQ i v).faultPc = m.faultPc := rfl
@[simp] theorem State.setQ_faultInfo (m : State) (i : QReg) (v : Fp2) : (m.setQ i v).faultInfo = m.faultInfo := rfl
@[simp] theorem State.setQ_haltIe (m : State) (i : QReg) (v : Fp2) : (m.setQ i v).haltIe = m.haltIe := rfl
@[simp] theorem State.setQ_faultIe (m : State) (i : QReg) (v : Fp2) : (m.setQ i v).faultIe = m.faultIe := rfl
@[simp] theorem State.setQ_imem (m : State) (i : QReg) (v : Fp2) : (m.setQ i v).imem = m.imem := rfl
@[simp] theorem State.setQ_dmem (m : State) (i : QReg) (v : Fp2) : (m.setQ i v).dmem = m.dmem := rfl
@[simp] theorem State.setQ_sizes (m : State) (i : QReg) (v : Fp2) : (m.setQ i v).sizes = m.sizes := rfl
@[simp] theorem State.setQ_host (m : State) (i : QReg) (v : Fp2) : (m.setQ i v).host = m.host := rfl
@[simp] theorem State.setQ_draws (m : State) (i : QReg) (v : Fp2) : (m.setQ i v).draws = m.draws := rfl
@[simp] theorem State.setQ_epoch (m : State) (i : QReg) (v : Fp2) : (m.setQ i v).epoch = m.epoch := rfl

/-! ### `setS` -/

@[simp] theorem State.setS_pc (m : State) (i : SReg) (v : Fp6) : (m.setS i v).pc = m.pc := rfl
@[simp] theorem State.setS_tflag (m : State) (i : SReg) (v : Fp6) : (m.setS i v).tflag = m.tflag := rfl
@[simp] theorem State.setS_a (m : State) (i : SReg) (v : Fp6) : (m.setS i v).a = m.a := rfl
@[simp] theorem State.setS_k (m : State) (i : SReg) (v : Fp6) : (m.setS i v).k = m.k := rfl
@[simp] theorem State.setS_f (m : State) (i : SReg) (v : Fp6) : (m.setS i v).f = m.f := rfl
@[simp] theorem State.setS_q (m : State) (i : SReg) (v : Fp6) : (m.setS i v).q = m.q := rfl
@[simp] theorem State.setS_s (m : State) (i : SReg) (v : Fp6) : (m.setS i v).s = setReg m.s i v := rfl
@[simp] theorem State.setS_t (m : State) (i : SReg) (v : Fp6) : (m.setS i v).t = m.t := rfl
@[simp] theorem State.setS_g (m : State) (i : SReg) (v : Fp6) : (m.setS i v).g = m.g := rfl
@[simp] theorem State.setS_h (m : State) (i : SReg) (v : Fp6) : (m.setS i v).h = m.h := rfl
@[simp] theorem State.setS_run (m : State) (i : SReg) (v : Fp6) : (m.setS i v).run = m.run := rfl
@[simp] theorem State.setS_faultCause (m : State) (i : SReg) (v : Fp6) : (m.setS i v).faultCause = m.faultCause := rfl
@[simp] theorem State.setS_faultPc (m : State) (i : SReg) (v : Fp6) : (m.setS i v).faultPc = m.faultPc := rfl
@[simp] theorem State.setS_faultInfo (m : State) (i : SReg) (v : Fp6) : (m.setS i v).faultInfo = m.faultInfo := rfl
@[simp] theorem State.setS_haltIe (m : State) (i : SReg) (v : Fp6) : (m.setS i v).haltIe = m.haltIe := rfl
@[simp] theorem State.setS_faultIe (m : State) (i : SReg) (v : Fp6) : (m.setS i v).faultIe = m.faultIe := rfl
@[simp] theorem State.setS_imem (m : State) (i : SReg) (v : Fp6) : (m.setS i v).imem = m.imem := rfl
@[simp] theorem State.setS_dmem (m : State) (i : SReg) (v : Fp6) : (m.setS i v).dmem = m.dmem := rfl
@[simp] theorem State.setS_sizes (m : State) (i : SReg) (v : Fp6) : (m.setS i v).sizes = m.sizes := rfl
@[simp] theorem State.setS_host (m : State) (i : SReg) (v : Fp6) : (m.setS i v).host = m.host := rfl
@[simp] theorem State.setS_draws (m : State) (i : SReg) (v : Fp6) : (m.setS i v).draws = m.draws := rfl
@[simp] theorem State.setS_epoch (m : State) (i : SReg) (v : Fp6) : (m.setS i v).epoch = m.epoch := rfl

/-! ### `setT` -/

@[simp] theorem State.setT_pc (m : State) (i : TReg) (v : Fp12) : (m.setT i v).pc = m.pc := rfl
@[simp] theorem State.setT_tflag (m : State) (i : TReg) (v : Fp12) : (m.setT i v).tflag = m.tflag := rfl
@[simp] theorem State.setT_a (m : State) (i : TReg) (v : Fp12) : (m.setT i v).a = m.a := rfl
@[simp] theorem State.setT_k (m : State) (i : TReg) (v : Fp12) : (m.setT i v).k = m.k := rfl
@[simp] theorem State.setT_f (m : State) (i : TReg) (v : Fp12) : (m.setT i v).f = m.f := rfl
@[simp] theorem State.setT_q (m : State) (i : TReg) (v : Fp12) : (m.setT i v).q = m.q := rfl
@[simp] theorem State.setT_s (m : State) (i : TReg) (v : Fp12) : (m.setT i v).s = m.s := rfl
@[simp] theorem State.setT_t (m : State) (i : TReg) (v : Fp12) : (m.setT i v).t = setReg m.t i v := rfl
@[simp] theorem State.setT_g (m : State) (i : TReg) (v : Fp12) : (m.setT i v).g = m.g := rfl
@[simp] theorem State.setT_h (m : State) (i : TReg) (v : Fp12) : (m.setT i v).h = m.h := rfl
@[simp] theorem State.setT_run (m : State) (i : TReg) (v : Fp12) : (m.setT i v).run = m.run := rfl
@[simp] theorem State.setT_faultCause (m : State) (i : TReg) (v : Fp12) : (m.setT i v).faultCause = m.faultCause := rfl
@[simp] theorem State.setT_faultPc (m : State) (i : TReg) (v : Fp12) : (m.setT i v).faultPc = m.faultPc := rfl
@[simp] theorem State.setT_faultInfo (m : State) (i : TReg) (v : Fp12) : (m.setT i v).faultInfo = m.faultInfo := rfl
@[simp] theorem State.setT_haltIe (m : State) (i : TReg) (v : Fp12) : (m.setT i v).haltIe = m.haltIe := rfl
@[simp] theorem State.setT_faultIe (m : State) (i : TReg) (v : Fp12) : (m.setT i v).faultIe = m.faultIe := rfl
@[simp] theorem State.setT_imem (m : State) (i : TReg) (v : Fp12) : (m.setT i v).imem = m.imem := rfl
@[simp] theorem State.setT_dmem (m : State) (i : TReg) (v : Fp12) : (m.setT i v).dmem = m.dmem := rfl
@[simp] theorem State.setT_sizes (m : State) (i : TReg) (v : Fp12) : (m.setT i v).sizes = m.sizes := rfl
@[simp] theorem State.setT_host (m : State) (i : TReg) (v : Fp12) : (m.setT i v).host = m.host := rfl
@[simp] theorem State.setT_draws (m : State) (i : TReg) (v : Fp12) : (m.setT i v).draws = m.draws := rfl
@[simp] theorem State.setT_epoch (m : State) (i : TReg) (v : Fp12) : (m.setT i v).epoch = m.epoch := rfl

/-! ### `setG` -/

@[simp] theorem State.setG_pc (m : State) (i : GReg) (v : G1Point) : (m.setG i v).pc = m.pc := rfl
@[simp] theorem State.setG_tflag (m : State) (i : GReg) (v : G1Point) : (m.setG i v).tflag = m.tflag := rfl
@[simp] theorem State.setG_a (m : State) (i : GReg) (v : G1Point) : (m.setG i v).a = m.a := rfl
@[simp] theorem State.setG_k (m : State) (i : GReg) (v : G1Point) : (m.setG i v).k = m.k := rfl
@[simp] theorem State.setG_f (m : State) (i : GReg) (v : G1Point) : (m.setG i v).f = m.f := rfl
@[simp] theorem State.setG_q (m : State) (i : GReg) (v : G1Point) : (m.setG i v).q = m.q := rfl
@[simp] theorem State.setG_s (m : State) (i : GReg) (v : G1Point) : (m.setG i v).s = m.s := rfl
@[simp] theorem State.setG_t (m : State) (i : GReg) (v : G1Point) : (m.setG i v).t = m.t := rfl
@[simp] theorem State.setG_g (m : State) (i : GReg) (v : G1Point) : (m.setG i v).g = setReg m.g i v := rfl
@[simp] theorem State.setG_h (m : State) (i : GReg) (v : G1Point) : (m.setG i v).h = m.h := rfl
@[simp] theorem State.setG_run (m : State) (i : GReg) (v : G1Point) : (m.setG i v).run = m.run := rfl
@[simp] theorem State.setG_faultCause (m : State) (i : GReg) (v : G1Point) : (m.setG i v).faultCause = m.faultCause := rfl
@[simp] theorem State.setG_faultPc (m : State) (i : GReg) (v : G1Point) : (m.setG i v).faultPc = m.faultPc := rfl
@[simp] theorem State.setG_faultInfo (m : State) (i : GReg) (v : G1Point) : (m.setG i v).faultInfo = m.faultInfo := rfl
@[simp] theorem State.setG_haltIe (m : State) (i : GReg) (v : G1Point) : (m.setG i v).haltIe = m.haltIe := rfl
@[simp] theorem State.setG_faultIe (m : State) (i : GReg) (v : G1Point) : (m.setG i v).faultIe = m.faultIe := rfl
@[simp] theorem State.setG_imem (m : State) (i : GReg) (v : G1Point) : (m.setG i v).imem = m.imem := rfl
@[simp] theorem State.setG_dmem (m : State) (i : GReg) (v : G1Point) : (m.setG i v).dmem = m.dmem := rfl
@[simp] theorem State.setG_sizes (m : State) (i : GReg) (v : G1Point) : (m.setG i v).sizes = m.sizes := rfl
@[simp] theorem State.setG_host (m : State) (i : GReg) (v : G1Point) : (m.setG i v).host = m.host := rfl
@[simp] theorem State.setG_draws (m : State) (i : GReg) (v : G1Point) : (m.setG i v).draws = m.draws := rfl
@[simp] theorem State.setG_epoch (m : State) (i : GReg) (v : G1Point) : (m.setG i v).epoch = m.epoch := rfl

/-! ### `setH` -/

@[simp] theorem State.setH_pc (m : State) (i : HReg) (v : G2Point) : (m.setH i v).pc = m.pc := rfl
@[simp] theorem State.setH_tflag (m : State) (i : HReg) (v : G2Point) : (m.setH i v).tflag = m.tflag := rfl
@[simp] theorem State.setH_a (m : State) (i : HReg) (v : G2Point) : (m.setH i v).a = m.a := rfl
@[simp] theorem State.setH_k (m : State) (i : HReg) (v : G2Point) : (m.setH i v).k = m.k := rfl
@[simp] theorem State.setH_f (m : State) (i : HReg) (v : G2Point) : (m.setH i v).f = m.f := rfl
@[simp] theorem State.setH_q (m : State) (i : HReg) (v : G2Point) : (m.setH i v).q = m.q := rfl
@[simp] theorem State.setH_s (m : State) (i : HReg) (v : G2Point) : (m.setH i v).s = m.s := rfl
@[simp] theorem State.setH_t (m : State) (i : HReg) (v : G2Point) : (m.setH i v).t = m.t := rfl
@[simp] theorem State.setH_g (m : State) (i : HReg) (v : G2Point) : (m.setH i v).g = m.g := rfl
@[simp] theorem State.setH_h (m : State) (i : HReg) (v : G2Point) : (m.setH i v).h = setReg m.h i v := rfl
@[simp] theorem State.setH_run (m : State) (i : HReg) (v : G2Point) : (m.setH i v).run = m.run := rfl
@[simp] theorem State.setH_faultCause (m : State) (i : HReg) (v : G2Point) : (m.setH i v).faultCause = m.faultCause := rfl
@[simp] theorem State.setH_faultPc (m : State) (i : HReg) (v : G2Point) : (m.setH i v).faultPc = m.faultPc := rfl
@[simp] theorem State.setH_faultInfo (m : State) (i : HReg) (v : G2Point) : (m.setH i v).faultInfo = m.faultInfo := rfl
@[simp] theorem State.setH_haltIe (m : State) (i : HReg) (v : G2Point) : (m.setH i v).haltIe = m.haltIe := rfl
@[simp] theorem State.setH_faultIe (m : State) (i : HReg) (v : G2Point) : (m.setH i v).faultIe = m.faultIe := rfl
@[simp] theorem State.setH_imem (m : State) (i : HReg) (v : G2Point) : (m.setH i v).imem = m.imem := rfl
@[simp] theorem State.setH_dmem (m : State) (i : HReg) (v : G2Point) : (m.setH i v).dmem = m.dmem := rfl
@[simp] theorem State.setH_sizes (m : State) (i : HReg) (v : G2Point) : (m.setH i v).sizes = m.sizes := rfl
@[simp] theorem State.setH_host (m : State) (i : HReg) (v : G2Point) : (m.setH i v).host = m.host := rfl
@[simp] theorem State.setH_draws (m : State) (i : HReg) (v : G2Point) : (m.setH i v).draws = m.draws := rfl
@[simp] theorem State.setH_epoch (m : State) (i : HReg) (v : G2Point) : (m.setH i v).epoch = m.epoch := rfl

/-! ### `setTest` -/

@[simp] theorem State.setTest_pc (m : State) (b : Bool) : (m.setTest b).pc = m.pc := rfl
@[simp] theorem State.setTest_tflag (m : State) (b : Bool) : (m.setTest b).tflag = b := rfl
@[simp] theorem State.setTest_a (m : State) (b : Bool) : (m.setTest b).a = m.a := rfl
@[simp] theorem State.setTest_k (m : State) (b : Bool) : (m.setTest b).k = m.k := rfl
@[simp] theorem State.setTest_f (m : State) (b : Bool) : (m.setTest b).f = m.f := rfl
@[simp] theorem State.setTest_q (m : State) (b : Bool) : (m.setTest b).q = m.q := rfl
@[simp] theorem State.setTest_s (m : State) (b : Bool) : (m.setTest b).s = m.s := rfl
@[simp] theorem State.setTest_t (m : State) (b : Bool) : (m.setTest b).t = m.t := rfl
@[simp] theorem State.setTest_g (m : State) (b : Bool) : (m.setTest b).g = m.g := rfl
@[simp] theorem State.setTest_h (m : State) (b : Bool) : (m.setTest b).h = m.h := rfl
@[simp] theorem State.setTest_run (m : State) (b : Bool) : (m.setTest b).run = m.run := rfl
@[simp] theorem State.setTest_faultCause (m : State) (b : Bool) : (m.setTest b).faultCause = m.faultCause := rfl
@[simp] theorem State.setTest_faultPc (m : State) (b : Bool) : (m.setTest b).faultPc = m.faultPc := rfl
@[simp] theorem State.setTest_faultInfo (m : State) (b : Bool) : (m.setTest b).faultInfo = m.faultInfo := rfl
@[simp] theorem State.setTest_haltIe (m : State) (b : Bool) : (m.setTest b).haltIe = m.haltIe := rfl
@[simp] theorem State.setTest_faultIe (m : State) (b : Bool) : (m.setTest b).faultIe = m.faultIe := rfl
@[simp] theorem State.setTest_imem (m : State) (b : Bool) : (m.setTest b).imem = m.imem := rfl
@[simp] theorem State.setTest_dmem (m : State) (b : Bool) : (m.setTest b).dmem = m.dmem := rfl
@[simp] theorem State.setTest_sizes (m : State) (b : Bool) : (m.setTest b).sizes = m.sizes := rfl
@[simp] theorem State.setTest_host (m : State) (b : Bool) : (m.setTest b).host = m.host := rfl
@[simp] theorem State.setTest_draws (m : State) (b : Bool) : (m.setTest b).draws = m.draws := rfl
@[simp] theorem State.setTest_epoch (m : State) (b : Bool) : (m.setTest b).epoch = m.epoch := rfl

/-! ### `setPc` -/

@[simp] theorem State.setPc_pc (m : State) (v : BitVec 16) : (m.setPc v).pc = v := rfl
@[simp] theorem State.setPc_tflag (m : State) (v : BitVec 16) : (m.setPc v).tflag = m.tflag := rfl
@[simp] theorem State.setPc_a (m : State) (v : BitVec 16) : (m.setPc v).a = m.a := rfl
@[simp] theorem State.setPc_k (m : State) (v : BitVec 16) : (m.setPc v).k = m.k := rfl
@[simp] theorem State.setPc_f (m : State) (v : BitVec 16) : (m.setPc v).f = m.f := rfl
@[simp] theorem State.setPc_q (m : State) (v : BitVec 16) : (m.setPc v).q = m.q := rfl
@[simp] theorem State.setPc_s (m : State) (v : BitVec 16) : (m.setPc v).s = m.s := rfl
@[simp] theorem State.setPc_t (m : State) (v : BitVec 16) : (m.setPc v).t = m.t := rfl
@[simp] theorem State.setPc_g (m : State) (v : BitVec 16) : (m.setPc v).g = m.g := rfl
@[simp] theorem State.setPc_h (m : State) (v : BitVec 16) : (m.setPc v).h = m.h := rfl
@[simp] theorem State.setPc_run (m : State) (v : BitVec 16) : (m.setPc v).run = m.run := rfl
@[simp] theorem State.setPc_faultCause (m : State) (v : BitVec 16) : (m.setPc v).faultCause = m.faultCause := rfl
@[simp] theorem State.setPc_faultPc (m : State) (v : BitVec 16) : (m.setPc v).faultPc = m.faultPc := rfl
@[simp] theorem State.setPc_faultInfo (m : State) (v : BitVec 16) : (m.setPc v).faultInfo = m.faultInfo := rfl
@[simp] theorem State.setPc_haltIe (m : State) (v : BitVec 16) : (m.setPc v).haltIe = m.haltIe := rfl
@[simp] theorem State.setPc_faultIe (m : State) (v : BitVec 16) : (m.setPc v).faultIe = m.faultIe := rfl
@[simp] theorem State.setPc_imem (m : State) (v : BitVec 16) : (m.setPc v).imem = m.imem := rfl
@[simp] theorem State.setPc_dmem (m : State) (v : BitVec 16) : (m.setPc v).dmem = m.dmem := rfl
@[simp] theorem State.setPc_sizes (m : State) (v : BitVec 16) : (m.setPc v).sizes = m.sizes := rfl
@[simp] theorem State.setPc_host (m : State) (v : BitVec 16) : (m.setPc v).host = m.host := rfl
@[simp] theorem State.setPc_draws (m : State) (v : BitVec 16) : (m.setPc v).draws = m.draws := rfl
@[simp] theorem State.setPc_epoch (m : State) (v : BitVec 16) : (m.setPc v).epoch = m.epoch := rfl

/-! ### `advance` -/

@[simp] theorem State.advance_pc (m : State) : (m.advance).pc = m.pc + 1 := rfl
@[simp] theorem State.advance_tflag (m : State) : (m.advance).tflag = m.tflag := rfl
@[simp] theorem State.advance_a (m : State) : (m.advance).a = m.a := rfl
@[simp] theorem State.advance_k (m : State) : (m.advance).k = m.k := rfl
@[simp] theorem State.advance_f (m : State) : (m.advance).f = m.f := rfl
@[simp] theorem State.advance_q (m : State) : (m.advance).q = m.q := rfl
@[simp] theorem State.advance_s (m : State) : (m.advance).s = m.s := rfl
@[simp] theorem State.advance_t (m : State) : (m.advance).t = m.t := rfl
@[simp] theorem State.advance_g (m : State) : (m.advance).g = m.g := rfl
@[simp] theorem State.advance_h (m : State) : (m.advance).h = m.h := rfl
@[simp] theorem State.advance_run (m : State) : (m.advance).run = m.run := rfl
@[simp] theorem State.advance_faultCause (m : State) : (m.advance).faultCause = m.faultCause := rfl
@[simp] theorem State.advance_faultPc (m : State) : (m.advance).faultPc = m.faultPc := rfl
@[simp] theorem State.advance_faultInfo (m : State) : (m.advance).faultInfo = m.faultInfo := rfl
@[simp] theorem State.advance_haltIe (m : State) : (m.advance).haltIe = m.haltIe := rfl
@[simp] theorem State.advance_faultIe (m : State) : (m.advance).faultIe = m.faultIe := rfl
@[simp] theorem State.advance_imem (m : State) : (m.advance).imem = m.imem := rfl
@[simp] theorem State.advance_dmem (m : State) : (m.advance).dmem = m.dmem := rfl
@[simp] theorem State.advance_sizes (m : State) : (m.advance).sizes = m.sizes := rfl
@[simp] theorem State.advance_host (m : State) : (m.advance).host = m.host := rfl
@[simp] theorem State.advance_draws (m : State) : (m.advance).draws = m.draws := rfl
@[simp] theorem State.advance_epoch (m : State) : (m.advance).epoch = m.epoch := rfl

/-! ### `setRun` -/

@[simp] theorem State.setRun_pc (m : State) (r : RunState) : (m.setRun r).pc = m.pc := rfl
@[simp] theorem State.setRun_tflag (m : State) (r : RunState) : (m.setRun r).tflag = m.tflag := rfl
@[simp] theorem State.setRun_a (m : State) (r : RunState) : (m.setRun r).a = m.a := rfl
@[simp] theorem State.setRun_k (m : State) (r : RunState) : (m.setRun r).k = m.k := rfl
@[simp] theorem State.setRun_f (m : State) (r : RunState) : (m.setRun r).f = m.f := rfl
@[simp] theorem State.setRun_q (m : State) (r : RunState) : (m.setRun r).q = m.q := rfl
@[simp] theorem State.setRun_s (m : State) (r : RunState) : (m.setRun r).s = m.s := rfl
@[simp] theorem State.setRun_t (m : State) (r : RunState) : (m.setRun r).t = m.t := rfl
@[simp] theorem State.setRun_g (m : State) (r : RunState) : (m.setRun r).g = m.g := rfl
@[simp] theorem State.setRun_h (m : State) (r : RunState) : (m.setRun r).h = m.h := rfl
@[simp] theorem State.setRun_run (m : State) (r : RunState) : (m.setRun r).run = r := rfl
@[simp] theorem State.setRun_faultCause (m : State) (r : RunState) : (m.setRun r).faultCause = m.faultCause := rfl
@[simp] theorem State.setRun_faultPc (m : State) (r : RunState) : (m.setRun r).faultPc = m.faultPc := rfl
@[simp] theorem State.setRun_faultInfo (m : State) (r : RunState) : (m.setRun r).faultInfo = m.faultInfo := rfl
@[simp] theorem State.setRun_haltIe (m : State) (r : RunState) : (m.setRun r).haltIe = m.haltIe := rfl
@[simp] theorem State.setRun_faultIe (m : State) (r : RunState) : (m.setRun r).faultIe = m.faultIe := rfl
@[simp] theorem State.setRun_imem (m : State) (r : RunState) : (m.setRun r).imem = m.imem := rfl
@[simp] theorem State.setRun_dmem (m : State) (r : RunState) : (m.setRun r).dmem = m.dmem := rfl
@[simp] theorem State.setRun_sizes (m : State) (r : RunState) : (m.setRun r).sizes = m.sizes := rfl
@[simp] theorem State.setRun_host (m : State) (r : RunState) : (m.setRun r).host = m.host := rfl
@[simp] theorem State.setRun_draws (m : State) (r : RunState) : (m.setRun r).draws = m.draws := rfl
@[simp] theorem State.setRun_epoch (m : State) (r : RunState) : (m.setRun r).epoch = m.epoch := rfl

/-! ### `drew` -/

@[simp] theorem State.drew_pc (m : State) : (m.drew).pc = m.pc := rfl
@[simp] theorem State.drew_tflag (m : State) : (m.drew).tflag = m.tflag := rfl
@[simp] theorem State.drew_a (m : State) : (m.drew).a = m.a := rfl
@[simp] theorem State.drew_k (m : State) : (m.drew).k = m.k := rfl
@[simp] theorem State.drew_f (m : State) : (m.drew).f = m.f := rfl
@[simp] theorem State.drew_q (m : State) : (m.drew).q = m.q := rfl
@[simp] theorem State.drew_s (m : State) : (m.drew).s = m.s := rfl
@[simp] theorem State.drew_t (m : State) : (m.drew).t = m.t := rfl
@[simp] theorem State.drew_g (m : State) : (m.drew).g = m.g := rfl
@[simp] theorem State.drew_h (m : State) : (m.drew).h = m.h := rfl
@[simp] theorem State.drew_run (m : State) : (m.drew).run = m.run := rfl
@[simp] theorem State.drew_faultCause (m : State) : (m.drew).faultCause = m.faultCause := rfl
@[simp] theorem State.drew_faultPc (m : State) : (m.drew).faultPc = m.faultPc := rfl
@[simp] theorem State.drew_faultInfo (m : State) : (m.drew).faultInfo = m.faultInfo := rfl
@[simp] theorem State.drew_haltIe (m : State) : (m.drew).haltIe = m.haltIe := rfl
@[simp] theorem State.drew_faultIe (m : State) : (m.drew).faultIe = m.faultIe := rfl
@[simp] theorem State.drew_imem (m : State) : (m.drew).imem = m.imem := rfl
@[simp] theorem State.drew_dmem (m : State) : (m.drew).dmem = m.dmem := rfl
@[simp] theorem State.drew_sizes (m : State) : (m.drew).sizes = m.sizes := rfl
@[simp] theorem State.drew_host (m : State) : (m.drew).host = m.host := rfl
@[simp] theorem State.drew_draws (m : State) : (m.drew).draws = m.draws + 1 := rfl
@[simp] theorem State.drew_epoch (m : State) : (m.drew).epoch = m.epoch := rfl

/-! ### `raise` -/

@[simp] theorem State.raise_pc (m : State) (e : Trap) : (m.raise e).pc = m.pc := rfl
@[simp] theorem State.raise_tflag (m : State) (e : Trap) : (m.raise e).tflag = m.tflag := rfl
@[simp] theorem State.raise_a (m : State) (e : Trap) : (m.raise e).a = m.a := rfl
@[simp] theorem State.raise_k (m : State) (e : Trap) : (m.raise e).k = m.k := rfl
@[simp] theorem State.raise_f (m : State) (e : Trap) : (m.raise e).f = m.f := rfl
@[simp] theorem State.raise_q (m : State) (e : Trap) : (m.raise e).q = m.q := rfl
@[simp] theorem State.raise_s (m : State) (e : Trap) : (m.raise e).s = m.s := rfl
@[simp] theorem State.raise_t (m : State) (e : Trap) : (m.raise e).t = m.t := rfl
@[simp] theorem State.raise_g (m : State) (e : Trap) : (m.raise e).g = m.g := rfl
@[simp] theorem State.raise_h (m : State) (e : Trap) : (m.raise e).h = m.h := rfl
@[simp] theorem State.raise_run (m : State) (e : Trap) : (m.raise e).run = .faulted := rfl
@[simp] theorem State.raise_faultCause (m : State) (e : Trap) : (m.raise e).faultCause = e.cause.code := rfl
@[simp] theorem State.raise_faultPc (m : State) (e : Trap) : (m.raise e).faultPc = m.pc := rfl
@[simp] theorem State.raise_faultInfo (m : State) (e : Trap) : (m.raise e).faultInfo = BitVec.ofNat 32 e.info := rfl
@[simp] theorem State.raise_haltIe (m : State) (e : Trap) : (m.raise e).haltIe = m.haltIe := rfl
@[simp] theorem State.raise_faultIe (m : State) (e : Trap) : (m.raise e).faultIe = m.faultIe := rfl
@[simp] theorem State.raise_imem (m : State) (e : Trap) : (m.raise e).imem = m.imem := rfl
@[simp] theorem State.raise_dmem (m : State) (e : Trap) : (m.raise e).dmem = m.dmem := rfl
@[simp] theorem State.raise_sizes (m : State) (e : Trap) : (m.raise e).sizes = m.sizes := rfl
@[simp] theorem State.raise_host (m : State) (e : Trap) : (m.raise e).host = m.host := rfl
@[simp] theorem State.raise_draws (m : State) (e : Trap) : (m.raise e).draws = m.draws := rfl
@[simp] theorem State.raise_epoch (m : State) (e : Trap) : (m.raise e).epoch = m.epoch := rfl

/-! ### `clearFault` -/

@[simp] theorem State.clearFault_pc (m : State) : (m.clearFault).pc = m.pc := rfl
@[simp] theorem State.clearFault_tflag (m : State) : (m.clearFault).tflag = m.tflag := rfl
@[simp] theorem State.clearFault_a (m : State) : (m.clearFault).a = m.a := rfl
@[simp] theorem State.clearFault_k (m : State) : (m.clearFault).k = m.k := rfl
@[simp] theorem State.clearFault_f (m : State) : (m.clearFault).f = m.f := rfl
@[simp] theorem State.clearFault_q (m : State) : (m.clearFault).q = m.q := rfl
@[simp] theorem State.clearFault_s (m : State) : (m.clearFault).s = m.s := rfl
@[simp] theorem State.clearFault_t (m : State) : (m.clearFault).t = m.t := rfl
@[simp] theorem State.clearFault_g (m : State) : (m.clearFault).g = m.g := rfl
@[simp] theorem State.clearFault_h (m : State) : (m.clearFault).h = m.h := rfl
@[simp] theorem State.clearFault_run (m : State) : (m.clearFault).run = .idle := rfl
@[simp] theorem State.clearFault_faultCause (m : State) : (m.clearFault).faultCause = 0 := rfl
@[simp] theorem State.clearFault_faultPc (m : State) : (m.clearFault).faultPc = 0 := rfl
@[simp] theorem State.clearFault_faultInfo (m : State) : (m.clearFault).faultInfo = 0 := rfl
@[simp] theorem State.clearFault_haltIe (m : State) : (m.clearFault).haltIe = m.haltIe := rfl
@[simp] theorem State.clearFault_faultIe (m : State) : (m.clearFault).faultIe = m.faultIe := rfl
@[simp] theorem State.clearFault_imem (m : State) : (m.clearFault).imem = m.imem := rfl
@[simp] theorem State.clearFault_dmem (m : State) : (m.clearFault).dmem = m.dmem := rfl
@[simp] theorem State.clearFault_sizes (m : State) : (m.clearFault).sizes = m.sizes := rfl
@[simp] theorem State.clearFault_host (m : State) : (m.clearFault).host = m.host := rfl
@[simp] theorem State.clearFault_draws (m : State) : (m.clearFault).draws = m.draws := rfl
@[simp] theorem State.clearFault_epoch (m : State) : (m.clearFault).epoch = m.epoch := rfl

/-! ### `storeDmem` -/

@[simp] theorem State.storeDmem_pc (m : State) (n : Nat) (bytes : List (BitVec 8)) : (m.storeDmem n bytes).pc = m.pc := rfl
@[simp] theorem State.storeDmem_tflag (m : State) (n : Nat) (bytes : List (BitVec 8)) : (m.storeDmem n bytes).tflag = m.tflag := rfl
@[simp] theorem State.storeDmem_a (m : State) (n : Nat) (bytes : List (BitVec 8)) : (m.storeDmem n bytes).a = m.a := rfl
@[simp] theorem State.storeDmem_k (m : State) (n : Nat) (bytes : List (BitVec 8)) : (m.storeDmem n bytes).k = m.k := rfl
@[simp] theorem State.storeDmem_f (m : State) (n : Nat) (bytes : List (BitVec 8)) : (m.storeDmem n bytes).f = m.f := rfl
@[simp] theorem State.storeDmem_q (m : State) (n : Nat) (bytes : List (BitVec 8)) : (m.storeDmem n bytes).q = m.q := rfl
@[simp] theorem State.storeDmem_s (m : State) (n : Nat) (bytes : List (BitVec 8)) : (m.storeDmem n bytes).s = m.s := rfl
@[simp] theorem State.storeDmem_t (m : State) (n : Nat) (bytes : List (BitVec 8)) : (m.storeDmem n bytes).t = m.t := rfl
@[simp] theorem State.storeDmem_g (m : State) (n : Nat) (bytes : List (BitVec 8)) : (m.storeDmem n bytes).g = m.g := rfl
@[simp] theorem State.storeDmem_h (m : State) (n : Nat) (bytes : List (BitVec 8)) : (m.storeDmem n bytes).h = m.h := rfl
@[simp] theorem State.storeDmem_run (m : State) (n : Nat) (bytes : List (BitVec 8)) : (m.storeDmem n bytes).run = m.run := rfl
@[simp] theorem State.storeDmem_faultCause (m : State) (n : Nat) (bytes : List (BitVec 8)) : (m.storeDmem n bytes).faultCause = m.faultCause := rfl
@[simp] theorem State.storeDmem_faultPc (m : State) (n : Nat) (bytes : List (BitVec 8)) : (m.storeDmem n bytes).faultPc = m.faultPc := rfl
@[simp] theorem State.storeDmem_faultInfo (m : State) (n : Nat) (bytes : List (BitVec 8)) : (m.storeDmem n bytes).faultInfo = m.faultInfo := rfl
@[simp] theorem State.storeDmem_haltIe (m : State) (n : Nat) (bytes : List (BitVec 8)) : (m.storeDmem n bytes).haltIe = m.haltIe := rfl
@[simp] theorem State.storeDmem_faultIe (m : State) (n : Nat) (bytes : List (BitVec 8)) : (m.storeDmem n bytes).faultIe = m.faultIe := rfl
@[simp] theorem State.storeDmem_imem (m : State) (n : Nat) (bytes : List (BitVec 8)) : (m.storeDmem n bytes).imem = m.imem := rfl
@[simp] theorem State.storeDmem_dmem (m : State) (n : Nat) (bytes : List (BitVec 8)) : (m.storeDmem n bytes).dmem = Memory.store m.dmem n bytes := rfl
@[simp] theorem State.storeDmem_sizes (m : State) (n : Nat) (bytes : List (BitVec 8)) : (m.storeDmem n bytes).sizes = m.sizes := rfl
@[simp] theorem State.storeDmem_host (m : State) (n : Nat) (bytes : List (BitVec 8)) : (m.storeDmem n bytes).host = m.host := rfl
@[simp] theorem State.storeDmem_draws (m : State) (n : Nat) (bytes : List (BitVec 8)) : (m.storeDmem n bytes).draws = m.draws := rfl
@[simp] theorem State.storeDmem_epoch (m : State) (n : Nat) (bytes : List (BitVec 8)) : (m.storeDmem n bytes).epoch = m.epoch := rfl

/-! ### `storeImem` -/

@[simp] theorem State.storeImem_pc (m : State) (n : Nat) (w : BitVec 32) : (m.storeImem n w).pc = m.pc := rfl
@[simp] theorem State.storeImem_tflag (m : State) (n : Nat) (w : BitVec 32) : (m.storeImem n w).tflag = m.tflag := rfl
@[simp] theorem State.storeImem_a (m : State) (n : Nat) (w : BitVec 32) : (m.storeImem n w).a = m.a := rfl
@[simp] theorem State.storeImem_k (m : State) (n : Nat) (w : BitVec 32) : (m.storeImem n w).k = m.k := rfl
@[simp] theorem State.storeImem_f (m : State) (n : Nat) (w : BitVec 32) : (m.storeImem n w).f = m.f := rfl
@[simp] theorem State.storeImem_q (m : State) (n : Nat) (w : BitVec 32) : (m.storeImem n w).q = m.q := rfl
@[simp] theorem State.storeImem_s (m : State) (n : Nat) (w : BitVec 32) : (m.storeImem n w).s = m.s := rfl
@[simp] theorem State.storeImem_t (m : State) (n : Nat) (w : BitVec 32) : (m.storeImem n w).t = m.t := rfl
@[simp] theorem State.storeImem_g (m : State) (n : Nat) (w : BitVec 32) : (m.storeImem n w).g = m.g := rfl
@[simp] theorem State.storeImem_h (m : State) (n : Nat) (w : BitVec 32) : (m.storeImem n w).h = m.h := rfl
@[simp] theorem State.storeImem_run (m : State) (n : Nat) (w : BitVec 32) : (m.storeImem n w).run = m.run := rfl
@[simp] theorem State.storeImem_faultCause (m : State) (n : Nat) (w : BitVec 32) : (m.storeImem n w).faultCause = m.faultCause := rfl
@[simp] theorem State.storeImem_faultPc (m : State) (n : Nat) (w : BitVec 32) : (m.storeImem n w).faultPc = m.faultPc := rfl
@[simp] theorem State.storeImem_faultInfo (m : State) (n : Nat) (w : BitVec 32) : (m.storeImem n w).faultInfo = m.faultInfo := rfl
@[simp] theorem State.storeImem_haltIe (m : State) (n : Nat) (w : BitVec 32) : (m.storeImem n w).haltIe = m.haltIe := rfl
@[simp] theorem State.storeImem_faultIe (m : State) (n : Nat) (w : BitVec 32) : (m.storeImem n w).faultIe = m.faultIe := rfl
@[simp] theorem State.storeImem_imem (m : State) (n : Nat) (w : BitVec 32) : (m.storeImem n w).imem = Memory.store m.imem n [w] := rfl
@[simp] theorem State.storeImem_dmem (m : State) (n : Nat) (w : BitVec 32) : (m.storeImem n w).dmem = m.dmem := rfl
@[simp] theorem State.storeImem_sizes (m : State) (n : Nat) (w : BitVec 32) : (m.storeImem n w).sizes = m.sizes := rfl
@[simp] theorem State.storeImem_host (m : State) (n : Nat) (w : BitVec 32) : (m.storeImem n w).host = m.host := rfl
@[simp] theorem State.storeImem_draws (m : State) (n : Nat) (w : BitVec 32) : (m.storeImem n w).draws = m.draws := rfl
@[simp] theorem State.storeImem_epoch (m : State) (n : Nat) (w : BitVec 32) : (m.storeImem n w).epoch = m.epoch := rfl

/-! ### `setA`, which discards a write of `a0` -/

@[simp] theorem State.setA_pc (m : State) (i : AReg) (v : BitVec 16) : (m.setA i v).pc = m.pc := by
  unfold State.setA; split <;> rfl
@[simp] theorem State.setA_tflag (m : State) (i : AReg) (v : BitVec 16) : (m.setA i v).tflag = m.tflag := by
  unfold State.setA; split <;> rfl
theorem State.setA_a (m : State) (i : AReg) (v : BitVec 16) :
    (m.setA i v).a = if i = 0 then m.a else m.a.set i v := by unfold State.setA; split <;> rfl
@[simp] theorem State.setA_k (m : State) (i : AReg) (v : BitVec 16) : (m.setA i v).k = m.k := by
  unfold State.setA; split <;> rfl
@[simp] theorem State.setA_f (m : State) (i : AReg) (v : BitVec 16) : (m.setA i v).f = m.f := by
  unfold State.setA; split <;> rfl
@[simp] theorem State.setA_q (m : State) (i : AReg) (v : BitVec 16) : (m.setA i v).q = m.q := by
  unfold State.setA; split <;> rfl
@[simp] theorem State.setA_s (m : State) (i : AReg) (v : BitVec 16) : (m.setA i v).s = m.s := by
  unfold State.setA; split <;> rfl
@[simp] theorem State.setA_t (m : State) (i : AReg) (v : BitVec 16) : (m.setA i v).t = m.t := by
  unfold State.setA; split <;> rfl
@[simp] theorem State.setA_g (m : State) (i : AReg) (v : BitVec 16) : (m.setA i v).g = m.g := by
  unfold State.setA; split <;> rfl
@[simp] theorem State.setA_h (m : State) (i : AReg) (v : BitVec 16) : (m.setA i v).h = m.h := by
  unfold State.setA; split <;> rfl
@[simp] theorem State.setA_run (m : State) (i : AReg) (v : BitVec 16) : (m.setA i v).run = m.run := by
  unfold State.setA; split <;> rfl
@[simp] theorem State.setA_faultCause (m : State) (i : AReg) (v : BitVec 16) : (m.setA i v).faultCause = m.faultCause := by
  unfold State.setA; split <;> rfl
@[simp] theorem State.setA_faultPc (m : State) (i : AReg) (v : BitVec 16) : (m.setA i v).faultPc = m.faultPc := by
  unfold State.setA; split <;> rfl
@[simp] theorem State.setA_faultInfo (m : State) (i : AReg) (v : BitVec 16) : (m.setA i v).faultInfo = m.faultInfo := by
  unfold State.setA; split <;> rfl
@[simp] theorem State.setA_haltIe (m : State) (i : AReg) (v : BitVec 16) : (m.setA i v).haltIe = m.haltIe := by
  unfold State.setA; split <;> rfl
@[simp] theorem State.setA_faultIe (m : State) (i : AReg) (v : BitVec 16) : (m.setA i v).faultIe = m.faultIe := by
  unfold State.setA; split <;> rfl
@[simp] theorem State.setA_imem (m : State) (i : AReg) (v : BitVec 16) : (m.setA i v).imem = m.imem := by
  unfold State.setA; split <;> rfl
@[simp] theorem State.setA_dmem (m : State) (i : AReg) (v : BitVec 16) : (m.setA i v).dmem = m.dmem := by
  unfold State.setA; split <;> rfl
@[simp] theorem State.setA_sizes (m : State) (i : AReg) (v : BitVec 16) : (m.setA i v).sizes = m.sizes := by
  unfold State.setA; split <;> rfl
@[simp] theorem State.setA_host (m : State) (i : AReg) (v : BitVec 16) : (m.setA i v).host = m.host := by
  unfold State.setA; split <;> rfl
@[simp] theorem State.setA_draws (m : State) (i : AReg) (v : BitVec 16) : (m.setA i v).draws = m.draws := by
  unfold State.setA; split <;> rfl
@[simp] theorem State.setA_epoch (m : State) (i : AReg) (v : BitVec 16) : (m.setA i v).epoch = m.epoch := by
  unfold State.setA; split <;> rfl

/-! ### Reset -/

@[simp] theorem State.softReset_haltIe (m : State) : m.softReset.haltIe = m.haltIe := rfl
@[simp] theorem State.softReset_faultIe (m : State) : m.softReset.faultIe = m.faultIe := rfl
@[simp] theorem State.softReset_imem (m : State) : m.softReset.imem = m.imem := rfl
@[simp] theorem State.softReset_dmem (m : State) : m.softReset.dmem = m.dmem := rfl
@[simp] theorem State.softReset_sizes (m : State) : m.softReset.sizes = m.sizes := rfl
@[simp] theorem State.softReset_host (m : State) : m.softReset.host = m.host := rfl
@[simp] theorem State.softReset_draws (m : State) : m.softReset.draws = m.draws := rfl
@[simp] theorem State.softReset_epoch (m : State) : m.softReset.epoch = m.epoch := rfl
@[simp] theorem State.hardReset_haltIe (m : State) : m.hardReset.haltIe = false := rfl
@[simp] theorem State.hardReset_faultIe (m : State) : m.hardReset.faultIe = false := rfl
@[simp] theorem State.hardReset_imem (m : State) : m.hardReset.imem = [] := rfl
@[simp] theorem State.hardReset_dmem (m : State) : m.hardReset.dmem = [] := rfl
@[simp] theorem State.hardReset_sizes (m : State) : m.hardReset.sizes = m.sizes := rfl
@[simp] theorem State.hardReset_host (m : State) : m.hardReset.host = m.host := rfl
@[simp] theorem State.hardReset_draws (m : State) : m.hardReset.draws = m.draws := rfl
@[simp] theorem State.hardReset_epoch (m : State) : m.hardReset.epoch = m.epoch + 1 := rfl
@[simp] theorem State.softReset_pc (m : State) : m.softReset.pc = 0 := rfl
@[simp] theorem State.softReset_tflag (m : State) : m.softReset.tflag = false := rfl
@[simp] theorem State.softReset_a (m : State) : m.softReset.a = Vector.replicate 8 0 := rfl
@[simp] theorem State.softReset_run (m : State) : m.softReset.run = .idle := rfl
@[simp] theorem State.softReset_faultCause (m : State) : m.softReset.faultCause = 0 := rfl
@[simp] theorem State.softReset_faultPc (m : State) : m.softReset.faultPc = 0 := rfl
@[simp] theorem State.softReset_faultInfo (m : State) : m.softReset.faultInfo = 0 := rfl
@[simp] theorem State.hardReset_pc (m : State) : m.hardReset.pc = 0 := rfl
@[simp] theorem State.hardReset_tflag (m : State) : m.hardReset.tflag = false := rfl
@[simp] theorem State.hardReset_a (m : State) : m.hardReset.a = Vector.replicate 8 0 := rfl
@[simp] theorem State.hardReset_run (m : State) : m.hardReset.run = .idle := rfl
@[simp] theorem State.hardReset_faultCause (m : State) : m.hardReset.faultCause = 0 := rfl
@[simp] theorem State.hardReset_faultPc (m : State) : m.hardReset.faultPc = 0 := rfl
@[simp] theorem State.hardReset_faultInfo (m : State) : m.hardReset.faultInfo = 0 := rfl

end Sys2Proof.Machine
end

