-- ==== Sys2Proof/Laws/Ops.lean ====
section
/-! SUPPORT. What each shared operation can do, said once: registers, memories, and the ways an instruction ends. -/

namespace Sys2Proof.Machine

/-! ### Registers -/

theorem readReg_eq_ok {α : Type} {n : Nat} (code : Nat) (file : Vector (VReg α) n) (i : Fin n) (v : α) :
    readReg code file i = .ok v ↔ file[i] = ⟨true, v⟩ := by
  unfold readReg
  rcases h : file[i] with ⟨b, w⟩
  cases b <;> simp

theorem readReg_eq_error {α : Type} {n : Nat} (code : Nat) (file : Vector (VReg α) n) (i : Fin n) (e : Trap) :
    readReg code file i = .error e ↔ file[i].valid = false ∧ e = ⟨.uninitReg, code * 16 + i.val⟩ := by
  unfold readReg
  rcases h : file[i] with ⟨b, w⟩
  cases b <;> simp [eq_comm]

theorem setReg_getElem {α : Type} {n : Nat} (file : Vector (VReg α) n) (i j : Fin n) (v : α) :
    (setReg file i v)[j] = if i = j then ⟨true, v⟩ else file[j] := by
  unfold setReg
  simp only [Fin.getElem_fin, Vector.getElem_set, Fin.val_inj]

@[simp] theorem State.readA_zero (s : State) : s.readA 0 = 0 := rfl

theorem State.readA_of_ne (s : State) (i : AReg) (h : i ≠ 0) : s.readA i = s.a[i] := by simp [State.readA, h]

@[simp] theorem State.setA_zero (s : State) (v : BitVec 16) : s.setA 0 v = s := rfl

theorem State.readA_setA (s : State) (i j : AReg) (v : BitVec 16) :
    (s.setA i v).readA j = if j = 0 then 0 else if i = j then v else s.readA j := by
  unfold State.readA
  by_cases hj : j = 0
  · simp [hj]
  · simp only [hj, if_false, State.setA_a]
    by_cases hi : i = 0
    · subst hi
      simp only [if_true]
      exact (if_neg fun h : (0 : AReg) = j => hj h.symm).symm
    · simp only [hi, if_false, Fin.getElem_fin, Vector.getElem_set, Fin.val_inj]

/-! ### Memories -/

@[simp] theorem Memory.cells_length {w : Nat} (vs : List (BitVec w)) (a : Nat) :
    (Memory.cells a vs).length = vs.length := by
  induction vs generalizing a with
  | nil => rfl
  | cons v vs ih => simp [Memory.cells, ih]

theorem Memory.mem_cells {w : Nat} (vs : List (BitVec w)) (a : Nat) (c : Nat × BitVec w) :
    c ∈ Memory.cells a vs → a ≤ c.1 ∧ c.1 < a + vs.length := by
  induction vs generalizing a with
  | nil => simp [Memory.cells]
  | cons v vs ih =>
    intro h
    rcases List.mem_cons.1 h with rfl | h
    · simp
    · have := ih (a + 1) h
      simp only [List.length_cons]
      omega

theorem Memory.wf_cells {w : Nat} (vs : List (BitVec w)) (a : Nat) : Memory.wf (Memory.cells a vs) := by
  induction vs generalizing a with
  | nil => exact List.Pairwise.nil
  | cons v vs ih =>
    refine List.Pairwise.cons (fun c h => ?_) (ih (a + 1))
    have := Memory.mem_cells vs (a + 1) c h
    simp only
    omega

/-- A store keeps the canonical form (log 2). -/
theorem Memory.wf_store {w : Nat} (m : List (Nat × BitVec w)) (a : Nat) (vs : List (BitVec w))
    (h : Memory.wf m) : Memory.wf (Memory.store m a vs) := by
  unfold Memory.store
  refine List.pairwise_append.2 ⟨List.pairwise_append.2 ⟨h.filter _, Memory.wf_cells vs a, ?_⟩, h.filter _, ?_⟩
  · intro x hx y hy
    have h1 := of_decide_eq_true (List.mem_filter.1 hx).2
    have h2 := Memory.mem_cells vs a y hy
    omega
  · intro x hx y hy
    have h2 := of_decide_eq_true (List.mem_filter.1 hy).2
    rcases List.mem_append.1 hx with hx | hx
    · have h1 := of_decide_eq_true (List.mem_filter.1 hx).2
      omega
    · have h1 := Memory.mem_cells vs a x hx
      omega

/-- Where the cells of a memory after a store are: the stored ones and the old ones outside them. -/
theorem Memory.mem_store {w : Nat} (m : List (Nat × BitVec w)) (a : Nat) (vs : List (BitVec w))
    (c : Nat × BitVec w) (h : c ∈ Memory.store m a vs) : c ∈ m ∨ (a ≤ c.1 ∧ c.1 < a + vs.length) := by
  unfold Memory.store at h
  rcases List.mem_append.1 h with h | h
  · rcases List.mem_append.1 h with h | h
    · exact .inl (List.mem_filter.1 h).1
    · exact .inr (Memory.mem_cells vs a c h)
  · exact .inl (List.mem_filter.1 h).1

theorem Memory.lookup_append {w : Nat} (m m' : List (Nat × BitVec w)) (a : Nat) :
    Memory.lookup (m ++ m') a = (Memory.lookup m a).or (Memory.lookup m' a) := by
  induction m with
  | nil => simp [Memory.lookup]
  | cons c m ih =>
    simp only [List.cons_append, Memory.lookup]
    split <;> simp_all

theorem Memory.lookup_filter {w : Nat} (m : List (Nat × BitVec w)) (q : Nat → Bool) (a : Nat) :
    Memory.lookup (m.filter fun c => q c.1) a = if q a then Memory.lookup m a else none := by
  induction m with
  | nil => simp [Memory.lookup]
  | cons c m ih =>
    simp only [List.filter_cons, Memory.lookup]
    by_cases h : c.1 = a
    · subst h
      cases hq : q c.1 <;> simp [Memory.lookup, ih, hq]
    · cases hq : q c.1 <;> simp [Memory.lookup, ih, h]

theorem Memory.lookup_cells {w : Nat} (vs : List (BitVec w)) (a b : Nat) :
    Memory.lookup (Memory.cells a vs) b = if a ≤ b then vs[b - a]? else none := by
  induction vs generalizing a with
  | nil => simp [Memory.cells, Memory.lookup]
  | cons v vs ih =>
    simp only [Memory.cells, Memory.lookup, ih]
    by_cases h : a = b
    · subst h; simp
    · by_cases h' : a ≤ b
      · have h1 : a + 1 ≤ b := by omega
        have h2 : b - a = (b - (a + 1)) + 1 := by omega
        simp [h, h', h1, h2]
      · have h1 : ¬ a + 1 ≤ b := by omega
        simp [h, h', h1]

/-- What is written after a store: the stored values at their addresses, what was written elsewhere. -/
theorem Memory.lookup_store {w : Nat} (m : List (Nat × BitVec w)) (a : Nat) (vs : List (BitVec w)) (b : Nat) :
    Memory.lookup (Memory.store m a vs) b =
      if a ≤ b ∧ b < a + vs.length then vs[b - a]? else Memory.lookup m b := by
  unfold Memory.store
  rw [Memory.lookup_append, Memory.lookup_append, Memory.lookup_filter m (fun x => decide (x < a)),
    Memory.lookup_filter m (fun x => decide (a + vs.length ≤ x)), Memory.lookup_cells]
  by_cases h1 : b < a
  · have h2 : ¬ a ≤ b := by omega
    have h3 : ¬ a + vs.length ≤ b := by omega
    simp [h1, h2, h3]
  · have h2 : a ≤ b := by omega
    by_cases h3 : a + vs.length ≤ b
    · have h4 : ¬ b < a + vs.length := by omega
      have h5 : vs[b - a]? = none := List.getElem?_eq_none (by omega)
      simp [h1, h2, h3, h4, h5]
    · have h4 : b < a + vs.length := by omega
      have h6 : b - a < vs.length := by omega
      simp [h1, h2, h3, h4, h6]

/-- Reading a DMEM byte after a store of bytes. -/
theorem State.dmemByte_storeDmem (s : State) (a : Nat) (bytes : List (BitVec 8)) (b : Nat) :
    (s.storeDmem a bytes).dmemByte b =
      if a ≤ b ∧ b < a + bytes.length then bytes[b - a]?.getD 0 else s.dmemByte b := by
  unfold State.dmemByte State.storeDmem
  simp only [Memory.lookup_store]
  split
  · next h =>
    have h6 : b - a < bytes.length := by omega
    simp [h6]
  · rfl

theorem State.memRead_eq_ok (s : State) (a n : Nat) (bytes : List (BitVec 8)) :
    s.memRead a n = .ok bytes ↔
      a + n ≤ s.sizes.dmemBytes ∧ bytes = (List.range n).map fun i => s.dmemByte (a + i) := by
  unfold State.memRead
  split
  · next h => simp; omega
  · next h =>
    have h' : a + n ≤ s.sizes.dmemBytes := by omega
    simp [h', eq_comm]

theorem State.memWrite_eq_ok (s : State) (a : Nat) (bytes : List (BitVec 8)) (t : State) :
    s.memWrite a bytes = .ok t ↔ a + bytes.length ≤ s.sizes.dmemBytes ∧ t = s.storeDmem a bytes := by
  unfold State.memWrite
  split
  · next h => simp; omega
  · next h =>
    have h' : a + bytes.length ≤ s.sizes.dmemBytes := by omega
    simp [h', eq_comm]

/-- Every operation that writes a memory keeps its canonical form; so do `IMEM` and `DMEM` after reset. -/
theorem State.storeDmem_wf (s : State) (a : Nat) (bytes : List (BitVec 8)) (h : Memory.wf s.dmem) :
    Memory.wf (s.storeDmem a bytes).dmem := Memory.wf_store s.dmem a bytes h

theorem State.storeImem_wf (s : State) (i : Nat) (w : BitVec 32) (h : Memory.wf s.imem) :
    Memory.wf (s.storeImem i w).imem := Memory.wf_store s.imem i [w] h

theorem State.memWrite_wf (s t : State) (a : Nat) (bytes : List (BitVec 8)) (h : Memory.wf s.dmem)
    (hw : s.memWrite a bytes = .ok t) : Memory.wf t.dmem := by
  obtain ⟨-, rfl⟩ := (State.memWrite_eq_ok s a bytes t).1 hw
  exact s.storeDmem_wf a bytes h

theorem State.reset_memories_wf : Memory.wf State.reset.dmem ∧ Memory.wf State.reset.imem :=
  ⟨List.Pairwise.nil, List.Pairwise.nil⟩

theorem beBytes_length (n v : Nat) : (beBytes n v).length = n := by simp [beBytes]

@[simp] theorem integerBytes_length (n : BitVec 384) : (integerBytes n).length = 48 := beBytes_length _ _
@[simp] theorem fpBytes_length (v : Fp) : (fpBytes v).length = 48 := beBytes_length _ _
@[simp] theorem fp2Bytes_length (v : Fp2) : (fp2Bytes v).length = 96 := by simp [fp2Bytes]
@[simp] theorem fp6Bytes_length (v : Fp6) : (fp6Bytes v).length = 288 := by simp [fp6Bytes]
@[simp] theorem fp12Bytes_length (v : Fp12) : (fp12Bytes v).length = 576 := by simp [fp12Bytes]

theorem Codec.identity_length (n : Nat) (h : 0 < n) : (Codec.identity n).length = n := by
  simp [Codec.identity]; omega

theorem Codec.addHeader_length (big : Bool) (bytes : List (BitVec 8)) (h : 0 < bytes.length) :
    (Codec.addHeader big bytes).length = bytes.length := by
  simp [Codec.addHeader]; omega

@[simp] theorem Codec.encodeG1_length (P : G1Point) : (Codec.encodeG1 P).length = 48 := by
  unfold Codec.encodeG1
  split
  · exact Codec.identity_length 48 (by decide)
  · simp [Codec.addHeader_length]

@[simp] theorem Codec.encodeG2_length (P : G2Point) : (Codec.encodeG2 P).length = 96 := by
  unfold Codec.encodeG2
  split
  · exact Codec.identity_length 96 (by decide)
  · simp [Codec.addHeader_length]

/-! ### How an instruction ends: every shape ends in a next state, computed or faulted -/

theorem conclude_ok (s t : State) : conclude s (.ok t) = .next t := rfl

theorem conclude_error (s : State) (e : Trap) : conclude s (.error e) = .next (s.raise e) := rfl

theorem complete_ok (s t : State) : complete s (.ok t) = .next t.advance := rfl

theorem complete_error (s : State) (e : Trap) : complete s (.error e) = .next (s.raise e) := rfl

theorem complete_next (s t : State) (r : Except Trap State) (h : complete s r = .next t) :
    (∃ u, r = .ok u ∧ t = u.advance) ∨ (∃ e, r = .error e ∧ t = s.raise e) := by
  cases r with
  | ok u => exact .inl ⟨u, rfl, (Host.Outcome.next.inj h).symm⟩
  | error e => exact .inr ⟨e, rfl, (Host.Outcome.next.inj h).symm⟩

theorem compute1_next {α β : Type} (s t : State) (x : Except Trap α) (f : α → β) (write : β → State)
    (h : compute1 s x f write = .next t) :
    (∃ u, x = .ok u ∧ t = (write (f u)).advance) ∨ (∃ e, x = .error e ∧ t = s.raise e) := by
  cases x with
  | ok u => exact .inl ⟨u, rfl, (Host.Outcome.next.inj h).symm⟩
  | error e => exact .inr ⟨e, rfl, (Host.Outcome.next.inj h).symm⟩

theorem compute2_next {α β γ : Type} (s t : State) (x : Except Trap α) (y : Except Trap β) (f : α → β → γ)
    (write : γ → State) (h : compute2 s x y f write = .next t) :
    (∃ u v, x = .ok u ∧ y = .ok v ∧ t = (write (f u v)).advance) ∨
      (∃ e, (x = .error e ∨ (∃ u, x = .ok u) ∧ y = .error e) ∧ t = s.raise e) := by
  cases x with
  | error e => exact .inr ⟨e, .inl rfl, (Host.Outcome.next.inj h).symm⟩
  | ok u =>
    cases y with
    | error e => exact .inr ⟨e, .inr ⟨⟨u, rfl⟩, rfl⟩, (Host.Outcome.next.inj h).symm⟩
    | ok v => exact .inl ⟨u, v, rfl, rfl, (Host.Outcome.next.inj h).symm⟩

theorem compute3_next {α β γ δ : Type} (s t : State) (x : Except Trap α) (y : Except Trap β) (z : Except Trap γ)
    (f : α → β → γ → δ) (write : δ → State) (h : compute3 s x y z f write = .next t) :
    (∃ u v w, x = .ok u ∧ y = .ok v ∧ z = .ok w ∧ t = (write (f u v w)).advance) ∨
      (∃ e, (x = .error e ∨ (∃ u, x = .ok u) ∧ y = .error e ∨
        (∃ u, x = .ok u) ∧ (∃ v, y = .ok v) ∧ z = .error e) ∧ t = s.raise e) := by
  cases x with
  | error e => exact .inr ⟨e, .inl rfl, (Host.Outcome.next.inj h).symm⟩
  | ok u =>
    cases y with
    | error e => exact .inr ⟨e, .inr (.inl ⟨⟨u, rfl⟩, rfl⟩), (Host.Outcome.next.inj h).symm⟩
    | ok v =>
      cases z with
      | error e => exact .inr ⟨e, .inr (.inr ⟨⟨u, rfl⟩, ⟨v, rfl⟩, rfl⟩), (Host.Outcome.next.inj h).symm⟩
      | ok w => exact .inl ⟨u, v, w, rfl, rfl, rfl, (Host.Outcome.next.inj h).symm⟩

theorem attempt1_next {α β : Type} (s t : State) (x : Except Trap α) (f : α → Option β) (c : Cause)
    (write : β → State) (h : attempt1 s x f c write = .next t) :
    (∃ u r, x = .ok u ∧ f u = some r ∧ t = (write r).advance) ∨
      (∃ u, x = .ok u ∧ f u = none ∧ t = s.raise ⟨c, 0⟩) ∨ (∃ e, x = .error e ∧ t = s.raise e) := by
  cases x with
  | error e => exact .inr (.inr ⟨e, rfl, (Host.Outcome.next.inj h).symm⟩)
  | ok u =>
    unfold attempt1 at h
    cases hr : f u with
    | none =>
      simp only [Except.bind, hr, orRaise] at h
      exact .inr (.inl ⟨u, rfl, hr, (Host.Outcome.next.inj h).symm⟩)
    | some r =>
      simp only [Except.bind, hr, orRaise] at h
      exact .inl ⟨u, r, rfl, hr, (Host.Outcome.next.inj h).symm⟩

theorem attempt2_next {α β γ : Type} (s t : State) (x : Except Trap α) (y : Except Trap β) (f : α → β → Option γ)
    (c : Cause) (write : γ → State) (h : attempt2 s x y f c write = .next t) :
    (∃ u v r, x = .ok u ∧ y = .ok v ∧ f u v = some r ∧ t = (write r).advance) ∨
      (∃ u v, x = .ok u ∧ y = .ok v ∧ f u v = none ∧ t = s.raise ⟨c, 0⟩) ∨
      (∃ e, (x = .error e ∨ (∃ u, x = .ok u) ∧ y = .error e) ∧ t = s.raise e) := by
  cases x with
  | error e => exact .inr (.inr ⟨e, .inl rfl, (Host.Outcome.next.inj h).symm⟩)
  | ok u =>
    cases y with
    | error e => exact .inr (.inr ⟨e, .inr ⟨⟨u, rfl⟩, rfl⟩, (Host.Outcome.next.inj h).symm⟩)
    | ok v =>
      unfold attempt2 at h
      cases hr : f u v with
      | none =>
        simp only [Except.bind, hr, orRaise] at h
        exact .inr (.inl ⟨u, v, rfl, rfl, hr, (Host.Outcome.next.inj h).symm⟩)
      | some r =>
        simp only [Except.bind, hr, orRaise] at h
        exact .inl ⟨u, v, r, rfl, rfl, hr, (Host.Outcome.next.inj h).symm⟩

theorem load_next {α : Type} (s t : State) (ea n : Nat) (parse : List (BitVec 8) → Except Trap α)
    (write : α → State) (h : load s ea n parse write = .next t) :
    (∃ bytes v, s.memRead ea n = .ok bytes ∧ parse bytes = .ok v ∧ t = (write v).advance) ∨
      (∃ bytes e, s.memRead ea n = .ok bytes ∧ parse bytes = .error e ∧ t = s.raise e) ∨
      (s.sizes.dmemBytes < ea + n ∧ t = s.raise ⟨.dmemRange, ea⟩) := by
  unfold load at h
  cases hm : s.memRead ea n with
  | error e =>
    have he : s.sizes.dmemBytes < ea + n ∧ e = ⟨.dmemRange, ea⟩ := by
      unfold State.memRead at hm
      split at hm
      · next hlt => exact ⟨hlt, (Except.error.inj hm).symm⟩
      · cases hm
    rw [hm] at h
    exact .inr (.inr ⟨he.1, he.2 ▸ (Host.Outcome.next.inj h).symm⟩)
  | ok bytes =>
    rw [hm] at h
    cases hp : parse bytes with
    | error e =>
      simp only [Except.bind, hp] at h
      exact .inr (.inl ⟨bytes, e, rfl, hp, (Host.Outcome.next.inj h).symm⟩)
    | ok v =>
      simp only [Except.bind, hp] at h
      exact .inl ⟨bytes, v, rfl, hp, (Host.Outcome.next.inj h).symm⟩

theorem store_next {α : Type} (s t : State) (x : Except Trap α) (ea : Nat) (image : α → List (BitVec 8))
    (h : store s x ea image = .next t) :
    (∃ v, x = .ok v ∧ ea + (image v).length ≤ s.sizes.dmemBytes ∧ t = (s.storeDmem ea (image v)).advance) ∨
      (∃ v, x = .ok v ∧ s.sizes.dmemBytes < ea + (image v).length ∧ t = s.raise ⟨.dmemRange, ea⟩) ∨
      (∃ e, x = .error e ∧ t = s.raise e) := by
  unfold store at h
  cases x with
  | error e => exact .inr (.inr ⟨e, rfl, (Host.Outcome.next.inj h).symm⟩)
  | ok v =>
    by_cases hlt : s.sizes.dmemBytes < ea + (image v).length
    · simp only [Except.bind, State.memWrite, if_pos hlt] at h
      exact .inr (.inl ⟨v, rfl, hlt, (Host.Outcome.next.inj h).symm⟩)
    · simp only [Except.bind, State.memWrite, if_neg hlt] at h
      exact .inl ⟨v, rfl, by omega, (Host.Outcome.next.inj h).symm⟩

theorem decodePoint_next {α : Type} (s t : State) (c : AReg) (ea n : Nat) (dec : List (BitVec 8) → Except Trap α)
    (write : α → State) (h : decodePoint s c ea n dec write = .next t) :
    ((s.readA c).toNat = n ∧ load s ea n dec write = .next t) ∨
      ((s.readA c).toNat ≠ n ∧ t = s.raise ⟨.fmtLength, (s.readA c).toNat⟩) := by
  unfold decodePoint at h
  split at h
  · next hc => exact .inl ⟨hc, h⟩
  · next hc => exact .inr ⟨hc, (Host.Outcome.next.inj h).symm⟩

/-- A branch goes on or to its target, and changes nothing but `pc`. -/
theorem branch_next (s t : State) (taken : Bool) (off : BitVec 16) (h : branch s taken off = .next t) :
    t = s.setPc (if taken then s.target off else s.pc + 1) := (Host.Outcome.next.inj h).symm

end Sys2Proof.Machine
end

