-- ==== Sys2Proof/Laws/Prime.lean ====
section
/-! SUPPORT. The modulus is prime (spec/00_scope.md R6), by Lucas certificates: each number's predecessor is factored
into primes already certified. -/

namespace Sys2Proof

/-- `a ^ e` modulo `m`, by squaring. -/
def powMod (m a e : Nat) : Nat := powBy (fun x y => x * y % m) 1 a e

theorem powBits_mod_cast (m a : Nat) : ∀ n e : Nat, e < 2 ^ n →
    ((powBits (fun x y => x * y % m) 1 a n e : Nat) : ZMod m) = (a : ZMod m) ^ e
  | 0, e, h => by simp [powBits, Nat.lt_one_iff.mp h]
  | n + 1, e, h => by
    have ih := powBits_mod_cast m a n (e / 2) (by omega)
    have split : e = e / 2 + e / 2 + e % 2 := by omega
    rcases Nat.mod_two_eq_zero_or_one e with h2 | h2
    · conv_rhs => rw [split, h2, add_zero, pow_add]
      simp [powBits, h2, ih]
    · conv_rhs => rw [split, h2, pow_succ, pow_add]
      simp [powBits, h2, ih]

theorem powMod_cast (m a e : Nat) : ((powMod m a e : Nat) : ZMod m) = (a : ZMod m) ^ e :=
  powBits_mod_cast m a _ e Nat.lt_log2_self

/-- Lucas: `a` has order `p - 1` modulo `p`, whose prime factors are those of the list. -/
theorem prime_of_certificate (p a : Nat) (factors : List Nat) (one_lt : 1 < p) (primes : ∀ q ∈ factors, q.Prime)
    (product : factors.prod = p - 1) (fermat : powMod p a (p - 1) % p = 1)
    (order : ∀ q ∈ factors, powMod p a ((p - 1) / q) % p ≠ 1) : p.Prime := by
  have power (e : Nat) : (a : ZMod p) ^ e = 1 ↔ powMod p a e % p = 1 := by
    rw [← powMod_cast, ← Nat.cast_one, ZMod.natCast_eq_natCast_iff', Nat.mod_eq_of_lt one_lt]
  refine lucas_primality p a ((power _).2 fermat) fun q hq hd h => ?_
  rw [← product] at hd
  obtain ⟨r, hr, hqr⟩ := (Prime.dvd_prod_iff hq.prime).1 hd
  obtain rfl := (Nat.prime_dvd_prime_iff_eq hq (primes r hr)).1 hqr
  exact order q hr ((power _).1 h)

theorem prime_859267 : Nat.Prime 859267 :=
  prime_of_certificate _ 2
    [2, 3, 3, 47737]
    (by norm_num)
    (by
      simp only [List.forall_mem_cons, List.not_mem_nil, false_implies, implies_true, and_true]
      and_intros <;> norm_num)
    (by norm_num) (by decide +kernel) (by decide +kernel)

theorem prime_609743 : Nat.Prime 609743 :=
  prime_of_certificate _ 5
    [2, 7, 97, 449]
    (by norm_num)
    (by
      simp only [List.forall_mem_cons, List.not_mem_nil, false_implies, implies_true, and_true]
      and_intros <;> norm_num)
    (by norm_num) (by decide +kernel) (by decide +kernel)

theorem prime_52437899 : Nat.Prime 52437899 :=
  prime_of_certificate _ 2
    [2, 43, 609743]
    (by norm_num)
    (by
      simp only [List.forall_mem_cons, List.not_mem_nil, false_implies, implies_true, and_true]
      and_intros <;> first | exact prime_609743 | norm_num)
    (by norm_num) (by decide +kernel) (by decide +kernel)

theorem prime_582767 : Nat.Prime 582767 :=
  prime_of_certificate _ 5
    [2, 67, 4349]
    (by norm_num)
    (by
      simp only [List.forall_mem_cons, List.not_mem_nil, false_implies, implies_true, and_true]
      and_intros <;> norm_num)
    (by norm_num) (by decide +kernel) (by decide +kernel)

theorem prime_9272813673901 : Nat.Prime 9272813673901 :=
  prime_of_certificate _ 2
    [2, 2, 3, 5, 5, 7, 7577, 582767]
    (by norm_num)
    (by
      simp only [List.forall_mem_cons, List.not_mem_nil, false_implies, implies_true, and_true]
      and_intros <;> first | exact prime_582767 | norm_num)
    (by norm_num) (by decide +kernel) (by decide +kernel)

theorem prime_1928745244171409 : Nat.Prime 1928745244171409 :=
  prime_of_certificate _ 3
    [2, 2, 2, 2, 13, 9272813673901]
    (by norm_num)
    (by
      simp only [List.forall_mem_cons, List.not_mem_nil, false_implies, implies_true, and_true]
      and_intros <;> first | exact prime_9272813673901 | norm_num)
    (by norm_num) (by decide +kernel) (by decide +kernel)

theorem prime_7259797099061183477 : Nat.Prime 7259797099061183477 :=
  prime_of_certificate _ 2
    [2, 2, 941, 1928745244171409]
    (by norm_num)
    (by
      simp only [List.forall_mem_cons, List.not_mem_nil, false_implies, implies_true, and_true]
      and_intros <;> first | exact prime_1928745244171409 | norm_num)
    (by norm_num) (by decide +kernel) (by decide +kernel)

theorem prime_2584487767265781317813 : Nat.Prime 2584487767265781317813 :=
  prime_of_certificate _ 2
    [2, 2, 89, 7259797099061183477]
    (by norm_num)
    (by
      simp only [List.forall_mem_cons, List.not_mem_nil, false_implies, implies_true, and_true]
      and_intros <;> first | exact prime_7259797099061183477 | norm_num)
    (by norm_num) (by decide +kernel) (by decide +kernel)

theorem prime_1686913 : Nat.Prime 1686913 :=
  prime_of_certificate _ 10
    [2, 2, 2, 2, 2, 2, 2, 3, 23, 191]
    (by norm_num)
    (by
      simp only [List.forall_mem_cons, List.not_mem_nil, false_implies, implies_true, and_true]
      and_intros <;> norm_num)
    (by norm_num) (by decide +kernel) (by decide +kernel)

theorem prime_475709467 : Nat.Prime 475709467 :=
  prime_of_certificate _ 2
    [2, 3, 47, 1686913]
    (by norm_num)
    (by
      simp only [List.forall_mem_cons, List.not_mem_nil, false_implies, implies_true, and_true]
      and_intros <;> first | exact prime_1686913 | norm_num)
    (by norm_num) (by decide +kernel) (by decide +kernel)

theorem prime_927093389 : Nat.Prime 927093389 :=
  prime_of_certificate _ 3
    [2, 2, 13, 409, 43591]
    (by norm_num)
    (by
      simp only [List.forall_mem_cons, List.not_mem_nil, false_implies, implies_true, and_true]
      and_intros <;> norm_num)
    (by norm_num) (by decide +kernel) (by decide +kernel)

theorem prime_64881703735777 : Nat.Prime 64881703735777 :=
  prime_of_certificate _ 5
    [2, 2, 2, 2, 2, 3, 3, 3, 3, 3, 3, 3, 927093389]
    (by norm_num)
    (by
      simp only [List.forall_mem_cons, List.not_mem_nil, false_implies, implies_true, and_true]
      and_intros <;> first | exact prime_927093389 | norm_num)
    (by norm_num) (by decide +kernel) (by decide +kernel)

theorem prime_92691255082156974996979 : Nat.Prime 92691255082156974996979 :=
  prime_of_certificate _ 3
    [2, 3, 31, 467, 16447, 64881703735777]
    (by norm_num)
    (by
      simp only [List.forall_mem_cons, List.not_mem_nil, false_implies, implies_true, and_true]
      and_intros <;> first | exact prime_64881703735777 | norm_num)
    (by norm_num) (by decide +kernel) (by decide +kernel)

theorem prime_51376543 : Nat.Prime 51376543 :=
  prime_of_certificate _ 3
    [2, 3, 7, 151, 8101]
    (by norm_num)
    (by
      simp only [List.forall_mem_cons, List.not_mem_nil, false_implies, implies_true, and_true]
      and_intros <;> norm_num)
    (by norm_num) (by decide +kernel) (by decide +kernel)

theorem prime_43670061551 : Nat.Prime 43670061551 :=
  prime_of_certificate _ 7
    [2, 5, 5, 17, 51376543]
    (by norm_num)
    (by
      simp only [List.forall_mem_cons, List.not_mem_nil, false_implies, implies_true, and_true]
      and_intros <;> first | exact prime_51376543 | norm_num)
    (by norm_num) (by decide +kernel) (by decide +kernel)

theorem prime_755057 : Nat.Prime 755057 :=
  prime_of_certificate _ 3
    [2, 2, 2, 2, 41, 1151]
    (by norm_num)
    (by
      simp only [List.forall_mem_cons, List.not_mem_nil, false_implies, implies_true, and_true]
      and_intros <;> norm_num)
    (by norm_num) (by decide +kernel) (by decide +kernel)

theorem prime_421987 : Nat.Prime 421987 :=
  prime_of_certificate _ 2
    [2, 3, 53, 1327]
    (by norm_num)
    (by
      simp only [List.forall_mem_cons, List.not_mem_nil, false_implies, implies_true, and_true]
      and_intros <;> norm_num)
    (by norm_num) (by decide +kernel) (by decide +kernel)

theorem prime_13090036741 : Nat.Prime 13090036741 :=
  prime_of_certificate _ 10
    [2, 2, 3, 5, 11, 47, 421987]
    (by norm_num)
    (by
      simp only [List.forall_mem_cons, List.not_mem_nil, false_implies, implies_true, and_true]
      and_intros <;> first | exact prime_421987 | norm_num)
    (by norm_num) (by decide +kernel) (by decide +kernel)

theorem prime_3819663927398918131021 : Nat.Prime 3819663927398918131021 :=
  prime_of_certificate _ 6
    [2, 2, 3, 3, 5, 19, 113, 755057, 13090036741]
    (by norm_num)
    (by
      simp only [List.forall_mem_cons, List.not_mem_nil, false_implies, implies_true, and_true]
      and_intros <;> first | exact prime_755057 | exact prime_13090036741 | norm_num)
    (by norm_num) (by decide +kernel) (by decide +kernel)

theorem prime_1125266252156850182658904441386709967 : Nat.Prime 1125266252156850182658904441386709967 :=
  prime_of_certificate _ 5
    [2, 3373, 43670061551, 3819663927398918131021]
    (by norm_num)
    (by
      simp only [List.forall_mem_cons, List.not_mem_nil, false_implies, implies_true, and_true]
      and_intros <;> first | exact prime_43670061551 | exact prime_3819663927398918131021 | norm_num)
    (by norm_num) (by decide +kernel) (by decide +kernel)

theorem prime_15778400344354997994418419698270088123916926905054652752758194827714659 :
    Nat.Prime 15778400344354997994418419698270088123916926905054652752758194827714659 :=
  prime_of_certificate _ 2
    [2, 3, 53, 475709467, 92691255082156974996979, 1125266252156850182658904441386709967]
    (by norm_num)
    (by
      simp only [List.forall_mem_cons, List.not_mem_nil, false_implies, implies_true, and_true]
      and_intros <;>
        first
          | exact prime_475709467
          | exact prime_92691255082156974996979
          | exact prime_1125266252156850182658904441386709967
          | norm_num)
    (by norm_num) (by decide +kernel) (by decide +kernel)

theorem prime_modulus : Nat.Prime Config.p :=
  prime_of_certificate _ 2
    [2, 3, 3, 11, 23, 47, 10177, 859267, 52437899, 2584487767265781317813,
     15778400344354997994418419698270088123916926905054652752758194827714659]
    (by norm_num)
    (by
      simp only [List.forall_mem_cons, List.not_mem_nil, false_implies, implies_true, and_true]
      and_intros <;>
        first
          | exact prime_859267
          | exact prime_52437899
          | exact prime_2584487767265781317813
          | exact prime_15778400344354997994418419698270088123916926905054652752758194827714659
          | norm_num)
    (by norm_num) (by decide +kernel) (by decide +kernel)

end Sys2Proof
end

