-- ==== Sys2Proof/Tests/Slice0.lean ====
section
/-! SUPPORT. Own tests. Expected words and results are the spec's: the examples of the instruction rules and
spec/95_test_vectors.md, unless a comment says that they were worked out by hand. -/

namespace Sys2Proof.Tests
open Sys2Proof Sys2Proof.Machine

set_option Elab.async false

/-- A running machine with nothing loaded. -/
def st : State := { State.reset with run := .running }

/-- The answer is a next state with this property. -/
def after (r : Result) (good : State → Bool) : Bool :=
  match r with
  | .next t => good t
  | .fault _ => false
  | .refused _ => false

/-- The state is the one a fault with this code and information leaves at `pc` 0 (R521). -/
def faulted (code : BitVec 8) (info : BitVec 32) (t : State) : Bool :=
  t.run == .faulted && t.faultCause == code && t.faultInfo == info && t.faultPc == 0 && t.pc == 0

/-- A register read gives this value, and `pc` went on from 0. -/
def gives {α : Type} [DecidableEq α] (t : State) (r : Except Trap α) (v : α) : Bool :=
  r.toOption == some v && t.pc == 1

/-- A test wrote `T` (R23), and `pc` went on from 0. -/
def tests (v : Bool) (t : State) : Bool := t.tflag == v && t.pc == 1

/-- An element of Fp6 by its flattening (R14). -/
def fp6 (a b c d e f : Nat) : Fp6 := ⟨mkFp2 a b, mkFp2 c d, mkFp2 e f⟩

/-- The element of Fp12 that is flat 1, 2, ..., 12. -/
def elem : Fp12 := ⟨fp6 1 2 3 4 5 6, fp6 7 8 9 10 11 12⟩

/-- A triple over Fp. -/
def g1 (x y z : Nat) : G1Point := ⟨Fp.ofNat x, Fp.ofNat y, Fp.ofNat z⟩

/-- A triple over Fp2. -/
def g2 (a b c d e f : Nat) : G2Point := ⟨mkFp2 a b, mkFp2 c d, mkFp2 e f⟩

/-- `n` DMEM bytes from `a` up as one big-endian number. -/
def memory (t : State) (a n : Nat) : Nat := fromBe ((List.range n).map fun i => t.dmemByte (a + i))

/-! ### WellFormed: an ill-formed term for each check, and the greatest index it takes (R96) -/

theorem test_wf_fp2Get :
    Instr.wf (.fp2Get 3 5 2) = false ∧ Instr.wf (.fp2Get 3 5 255) = false ∧ Instr.wf (.fp2Get 3 5 1) = true := by
  decide

theorem test_wf_fp6Get :
    Instr.wf (.fp6Get 1 2 3) = false ∧ Instr.wf (.fp6Get 1 2 255) = false ∧ Instr.wf (.fp6Get 1 2 2) = true := by
  decide

theorem test_wf_fp12Get :
    Instr.wf (.fp12Get 4 5 2) = false ∧ Instr.wf (.fp12Get 4 5 255) = false ∧ Instr.wf (.fp12Get 4 5 1) = true := by
  decide

theorem test_wf_fp12Powp :
    Instr.wf (.fp12Powp 1 2 12) = false ∧ Instr.wf (.fp12Powp 1 2 255) = false ∧ Instr.wf (.fp12Powp 1 2 11) = true := by
  decide

theorem test_wf_g1Get :
    Instr.wf (.g1Get 5 1 3) = false ∧ Instr.wf (.g1Get 5 1 255) = false ∧ Instr.wf (.g1Get 5 1 2) = true := by
  decide

theorem test_wf_g2Get :
    Instr.wf (.g2Get 5 1 3) = false ∧ Instr.wf (.g2Get 5 1 255) = false ∧ Instr.wf (.g2Get 5 1 2) = true := by
  decide

/-! ### Decoding: a word of every instruction, as the examples of the rules spell it, and back -/

/-- The word decodes to the instruction, and the instruction encodes to the word. -/
def spells (pairs : List (Nat × Instr)) : Bool :=
  pairs.all fun x => decodeTableWord 32 x.1 == some x.2 && encode x.2 == BitVec.ofNat 32 x.1

theorem test_decode_control : spells [
  (0x01000000, .nop), (0x02000000, .halt), (0x03001234, .trap 4660), (0x0400FFFF, .j 0xffff),
  (0x05000003, .bt 3), (0x0600FFFE, .bf 0xfffe), (0x0720FFFC, .banz 2 0xfffc), (0x08700010, .jal 7 16),
  (0x09700000, .jr 7), (0x0A100100, .aLi 1 256), (0x0B110030, .aAddi 1 1 48)] := by
  decide +kernel

theorem test_decode_integer : spells [
  (0x90130040, .kLd 1 3 64), (0x91100000, .kSt 1 0 0), (0x92200005, .kLi 2 5), (0x93320000, .kMov 3 2),
  (0x94110000, .kModr 1 1)] := by
  decide +kernel

theorem test_decode_fp : spells [
  (0x10110030, .fpLd 1 1 48), (0x11200200, .fpSt 2 0 512), (0x12000004, .fpLi 0 4), (0x13300000, .fpMov 3 0),
  (0x14001000, .fpAdd 0 0 1), (0x15201000, .fpSub 2 0 1), (0x16100000, .fpNeg 1 0), (0x17111000, .fpMul 1 1 1),
  (0x18320000, .fpSqr 3 2), (0x19320000, .fpCube 3 2), (0x1A100000, .fpHalve 1 0),
  (0x1B101000, .fpScale 1 0 1), (0x1C101000, .fpPow 1 0 1), (0x1D100000, .fpInv 1 0),
  (0x1E201000, .fpDiv 2 0 1), (0x1F200000, .fpSqrt 2 0), (0x20030000, .fpEq 3 0), (0x21030000, .fpIszero 3),
  (0x22030000, .fpIsone 3)] := by
  decide +kernel

theorem test_decode_fp2 : spells [
  (0x30110060, .fp2Ld 1 1 96), (0x31200300, .fp2St 2 0 768), (0x32000004, .fp2Li 0 4),
  (0x33300000, .fp2Mov 3 0), (0x34012000, .fp2Add 0 1 2), (0x35012000, .fp2Sub 0 1 2),
  (0x36100000, .fp2Neg 1 0), (0x37201000, .fp2Mul 2 0 1), (0x38320000, .fp2Sqr 3 2),
  (0x39320000, .fp2Cube 3 2), (0x3A100000, .fp2Halve 1 0), (0x3B101000, .fp2Scale 1 0 1),
  (0x3C101000, .fp2Pow 1 0 1), (0x3D100000, .fp2Inv 1 0), (0x3E201000, .fp2Div 2 0 1),
  (0x3F200000, .fp2Sqrt 2 0), (0x40030000, .fp2Eq 3 0), (0x41030000, .fp2Iszero 3), (0x42030000, .fp2Isone 3),
  (0x43512000, .fp2Pack 5 1 2), (0x44350001, .fp2Get 3 5 1)] := by
  decide +kernel

theorem test_decode_fp6 : spells [
  (0x50110120, .fp6Ld 1 1 288), (0x51200400, .fp6St 2 0 1024), (0x52000001, .fp6Li 0 1),
  (0x53300000, .fp6Mov 3 0), (0x54012000, .fp6Add 0 1 2), (0x55012000, .fp6Sub 0 1 2),
  (0x56100000, .fp6Neg 1 0), (0x57201000, .fp6Mul 2 0 1), (0x58320000, .fp6Sqr 3 2),
  (0x59320000, .fp6Cube 3 2), (0x5A100000, .fp6Halve 1 0), (0x5B101000, .fp6Scale 1 0 1),
  (0x5C101000, .fp6Pow 1 0 1), (0x5D100000, .fp6Inv 1 0), (0x5E201000, .fp6Div 2 0 1),
  (0x60030000, .fp6Eq 3 0), (0x61030000, .fp6Iszero 3), (0x62030000, .fp6Isone 3),
  (0x63512300, .fp6Pack 5 1 2 3), (0x64450002, .fp6Get 4 5 2)] := by
  decide +kernel

theorem test_decode_fp12 : spells [
  (0x70110240, .fp12Ld 1 1 576), (0x71200800, .fp12St 2 0 2048), (0x72000001, .fp12Li 0 1),
  (0x73300000, .fp12Mov 3 0), (0x74012000, .fp12Add 0 1 2), (0x75012000, .fp12Sub 0 1 2),
  (0x76100000, .fp12Neg 1 0), (0x77201000, .fp12Mul 2 0 1), (0x78320000, .fp12Sqr 3 2),
  (0x79320000, .fp12Cube 3 2), (0x7A100000, .fp12Halve 1 0), (0x7B101000, .fp12Scale 1 0 1),
  (0x7C101000, .fp12Pow 1 0 1), (0x7D100000, .fp12Inv 1 0), (0x7E201000, .fp12Div 2 0 1),
  (0x80030000, .fp12Eq 3 0), (0x81030000, .fp12Iszero 3), (0x82030000, .fp12Isone 3),
  (0x83512000, .fp12Pack 5 1 2), (0x84450001, .fp12Get 4 5 1), (0x85100001, .fp12Powp 1 0 1),
  (0x86100000, .fp12Conj 1 0), (0x87100000, .fp12Cycsqr 1 0), (0x88101000, .fp12Cycpow 1 0 1)] := by
  decide +kernel

theorem test_decode_codec : spells [
  (0xA0101100, .g1Dec 1 0 1 256), (0xA1200200, .g1Enc 2 0 512), (0xC0101100, .g2Dec 1 0 1 256),
  (0xC1200200, .g2Enc 2 0 512)] := by
  decide +kernel

theorem test_decode_g1 : spells [
  (0xA2300000, .g1Zero 3), (0xA3210000, .g1Mov 2 1), (0xA4312000, .g1Add 3 1 2), (0xA5210000, .g1Dbl 2 1),
  (0xA6210000, .g1Neg 2 1), (0xA7211000, .g1Scale 2 1 1), (0xA8210000, .g1Clrcof 2 1),
  (0xA9112000, .g1Fromaff 1 1 2), (0xAA314000, .g1Toaff 3 1 4), (0xAB112300, .g1Pack 1 1 2 3),
  (0xAC510002, .g1Get 5 1 2), (0xAD012000, .g1Eq 1 2), (0xAE030000, .g1Iszero 3), (0xAF010000, .g1Isvalid 1)] := by
  decide +kernel

theorem test_decode_g2 : spells [
  (0xC2300000, .g2Zero 3), (0xC3210000, .g2Mov 2 1), (0xC4312000, .g2Add 3 1 2), (0xC5210000, .g2Dbl 2 1),
  (0xC6210000, .g2Neg 2 1), (0xC7211000, .g2Scale 2 1 1), (0xC8210000, .g2Clrcof 2 1),
  (0xC9112000, .g2Fromaff 1 1 2), (0xCA314000, .g2Toaff 3 1 4), (0xCB112300, .g2Pack 1 1 2 3),
  (0xCC510002, .g2Get 5 1 2), (0xCD012000, .g2Eq 1 2), (0xCE030000, .g2Iszero 3), (0xCF010000, .g2Isvalid 1),
  (0xD0210000, .g2Psi 2 1), (0xD1210000, .g2Psi2 2 1)] := by
  decide +kernel

theorem test_decode_pairing : spells [
  (0xE0011000, .miller 0 1 1), (0xE1100000, .finalExp 1 0), (0xE2000000, .finalVerify 0)] := by
  decide +kernel

/-- The words of spec/95_test_vectors.md section 9.1 that are no instruction, each with its reason. -/
theorem test_decode_illegal :
    decode 0x00000000 = .error .unassignedOpcode ∧ decode 0x23000000 = .error .unassignedOpcode ∧
    decode 0xFFFFFFFF = .error .unassignedOpcode ∧ decode 0x01000001 = .error .reservedBits ∧
    decode 0x0A800000 = .error .reservedBits ∧ decode 0x44350002 = .error .reservedBits ∧
    decode 0x64120003 = .error .indexTooBig ∧ decode 0x8512000C = .error .indexTooBig := by decide +kernel

/-! ### The table: opcode bytes and masks as spec/30_encoding.md R106 lists them -/

theorem test_masks_control : opcodeRows_control.map (fun r => (r.opcode, r.mask)) = [
  (0x01, 0xFFFFFFFF), (0x02, 0xFFFFFFFF), (0x03, 0xFFFF0000), (0x04, 0xFFFF0000), (0x05, 0xFFFF0000),
  (0x06, 0xFFFF0000), (0x07, 0xFF8F0000), (0x08, 0xFF8F0000), (0x09, 0xFF8FFFFF), (0x0A, 0xFF8F0000),
  (0x0B, 0xFF880000)] := by
  decide +kernel

theorem test_masks_integer : opcodeRows_integer.map (fun r => (r.opcode, r.mask)) = [
  (0x90, 0xFF880000), (0x91, 0xFF880000), (0x92, 0xFF8F0000), (0x93, 0xFF88FFFF), (0x94, 0xFF88FFFF)] := by
  decide +kernel

theorem test_masks_fp : opcodeRows_fp.map (fun r => (r.opcode, r.mask)) = [
  (0x10, 0xFF080000), (0x11, 0xFF080000), (0x12, 0xFF0F0000), (0x13, 0xFF00FFFF), (0x14, 0xFF000FFF),
  (0x15, 0xFF000FFF), (0x16, 0xFF00FFFF), (0x17, 0xFF000FFF), (0x18, 0xFF00FFFF), (0x19, 0xFF00FFFF),
  (0x1A, 0xFF00FFFF), (0x1B, 0xFF008FFF), (0x1C, 0xFF008FFF), (0x1D, 0xFF00FFFF), (0x1E, 0xFF000FFF),
  (0x1F, 0xFF00FFFF), (0x20, 0xFFF00FFF), (0x21, 0xFFF0FFFF), (0x22, 0xFFF0FFFF)] := by
  decide +kernel

theorem test_masks_fp2 : opcodeRows_fp2.map (fun r => (r.opcode, r.mask)) = [
  (0x30, 0xFF080000), (0x31, 0xFF080000), (0x32, 0xFF0F0000), (0x33, 0xFF00FFFF), (0x34, 0xFF000FFF),
  (0x35, 0xFF000FFF), (0x36, 0xFF00FFFF), (0x37, 0xFF000FFF), (0x38, 0xFF00FFFF), (0x39, 0xFF00FFFF),
  (0x3A, 0xFF00FFFF), (0x3B, 0xFF008FFF), (0x3C, 0xFF008FFF), (0x3D, 0xFF00FFFF), (0x3E, 0xFF000FFF),
  (0x3F, 0xFF00FFFF), (0x40, 0xFFF00FFF), (0x41, 0xFFF0FFFF), (0x42, 0xFFF0FFFF), (0x43, 0xFF000FFF),
  (0x44, 0xFF00FFFE)] := by
  decide +kernel

theorem test_masks_fp6 : opcodeRows_fp6.map (fun r => (r.opcode, r.mask)) = [
  (0x50, 0xFF880000), (0x51, 0xFF880000), (0x52, 0xFF8F0000), (0x53, 0xFF88FFFF), (0x54, 0xFF888FFF),
  (0x55, 0xFF888FFF), (0x56, 0xFF88FFFF), (0x57, 0xFF888FFF), (0x58, 0xFF88FFFF), (0x59, 0xFF88FFFF),
  (0x5A, 0xFF88FFFF), (0x5B, 0xFF888FFF), (0x5C, 0xFF888FFF), (0x5D, 0xFF88FFFF), (0x5E, 0xFF888FFF),
  (0x60, 0xFFF88FFF), (0x61, 0xFFF8FFFF), (0x62, 0xFFF8FFFF), (0x63, 0xFF8000FF), (0x64, 0xFF08FFFC)] := by
  decide +kernel

theorem test_masks_fp12 : opcodeRows_fp12.map (fun r => (r.opcode, r.mask)) = [
  (0x70, 0xFF880000), (0x71, 0xFF880000), (0x72, 0xFF8F0000), (0x73, 0xFF88FFFF), (0x74, 0xFF888FFF),
  (0x75, 0xFF888FFF), (0x76, 0xFF88FFFF), (0x77, 0xFF888FFF), (0x78, 0xFF88FFFF), (0x79, 0xFF88FFFF),
  (0x7A, 0xFF88FFFF), (0x7B, 0xFF888FFF), (0x7C, 0xFF888FFF), (0x7D, 0xFF88FFFF), (0x7E, 0xFF888FFF),
  (0x80, 0xFFF88FFF), (0x81, 0xFFF8FFFF), (0x82, 0xFFF8FFFF), (0x83, 0xFF888FFF), (0x84, 0xFF88FFFE),
  (0x85, 0xFF88FFF0), (0x86, 0xFF88FFFF), (0x87, 0xFF88FFFF), (0x88, 0xFF888FFF)] := by
  decide +kernel

theorem test_masks_g1 : opcodeRows_g1.map (fun r => (r.opcode, r.mask)) = [
  (0xA0, 0xFF888000), (0xA1, 0xFF880000), (0xA2, 0xFF8FFFFF), (0xA3, 0xFF88FFFF), (0xA4, 0xFF888FFF),
  (0xA5, 0xFF88FFFF), (0xA6, 0xFF88FFFF), (0xA7, 0xFF888FFF), (0xA8, 0xFF88FFFF), (0xA9, 0xFF800FFF),
  (0xAA, 0xFF080FFF), (0xAB, 0xFF8000FF), (0xAC, 0xFF08FFFC), (0xAD, 0xFFF88FFF), (0xAE, 0xFFF8FFFF),
  (0xAF, 0xFFF8FFFF)] := by
  decide +kernel

theorem test_masks_g2 : opcodeRows_g2.map (fun r => (r.opcode, r.mask)) = [
  (0xC0, 0xFF888000), (0xC1, 0xFF880000), (0xC2, 0xFF8FFFFF), (0xC3, 0xFF88FFFF), (0xC4, 0xFF888FFF),
  (0xC5, 0xFF88FFFF), (0xC6, 0xFF88FFFF), (0xC7, 0xFF888FFF), (0xC8, 0xFF88FFFF), (0xC9, 0xFF800FFF),
  (0xCA, 0xFF080FFF), (0xCB, 0xFF8000FF), (0xCC, 0xFF08FFFC), (0xCD, 0xFFF88FFF), (0xCE, 0xFFF8FFFF),
  (0xCF, 0xFFF8FFFF), (0xD0, 0xFF88FFFF), (0xD1, 0xFF88FFFF)] := by
  decide +kernel

theorem test_masks_pairing : opcodeRows_pairing.map (fun r => (r.opcode, r.mask)) = [
  (0xE0, 0xFF888FFF), (0xE1, 0xFF88FFFF), (0xE2, 0xFFF8FFFF)] := by
  decide +kernel

theorem test_table_size : opcodeTable.length = 137 ∧ (opcodeTable.map Row.opcode).Nodup := by decide +kernel

/-! ### One instruction each -/

theorem test_nop : after (exec .nop st) fun t => t == { st with pc := 1 } := by decide +kernel

theorem test_halt : after (exec .halt { st with pc := 12 }) fun t => t == { st with run := .halted, pc := 13 } := by
  decide +kernel

theorem test_trap : after (exec (.trap 0x1234) st) fun t => faulted 14 0x1234 t := by decide +kernel

theorem test_j : after (exec (.j 0xFFFF) { st with pc := 8 }) fun t => t.pc == 7 := by decide +kernel

theorem test_bt :
    after (exec (.bt 3) { st with pc := 10, tflag := true }) (fun t => t.pc == 13) && after (exec (.bt 3)
      { st with pc := 10 }) fun t => t.pc == 11 := by decide +kernel

theorem test_bf :
    after (exec (.bf 0xFFFE) { st with pc := 10 }) (fun t => t.pc == 8) && after (exec (.bf 0xFFFE)
      { st with pc := 10, tflag := true }) fun t => t.pc == 11 := by decide +kernel

theorem test_banz :
    after (exec (.banz 2 0xFFFC) ({ st with pc := 7 }.setA 2 2)) (fun t => t.pc == 3) && after (exec (.banz 0
      0xFFFC) { st with pc := 7 }) fun t => t.pc == 8 := by decide +kernel

theorem test_jal :
    after (exec (.jal 7 16) { st with pc := 4 }) (fun t => t.readA 7 == 5 && t.pc == 20) && after (exec (.jal 0
      16) { st with pc := 4 }) fun t => t.a == st.a && t.pc == 20 := by decide +kernel

theorem test_jr :
    after (exec (.jr 7) (st.setA 7 5)) (fun t => t.pc == 5) && after (exec (.jr 0) { st with pc := 9 }) fun t =>
      t.pc == 0 := by decide +kernel

theorem test_aLi :
    after (exec (.aLi 1 0x100) st) (fun t => t.readA 1 == 0x100 && t.pc == 1) && after (exec (.aLi 0 0x100) st)
      fun t => t.a == st.a && t.pc == 1 := by decide +kernel

theorem test_aAddi :
    after (exec (.aAddi 1 1 48) (st.setA 1 0x100)) (fun t => t.readA 1 == 0x130) && after (exec (.aAddi 1 1
      0xFFFF) st) fun t => t.readA 1 == 0xFFFF := by decide +kernel

theorem test_kLd :
    after (exec (.kLd 1 3 0x40) ((st.setA 3 0x1000).storeDmem 0x1040 (beBytes 48 (2 ^ 384 - 2)))) fun t => gives
      t (t.readK 1) (2 ^ 384 - 2) := by decide +kernel

theorem test_kSt :
    after (exec (.kSt 1 0 0) (st.setK 1 5)) fun t => memory t 0 48 == 5 && t.dmemByte 47 == 5 && t.dmem.length
      == 48 && t.pc == 1 := by decide +kernel

theorem test_kLi : after (exec (.kLi 2 5) st) fun t => gives t (t.readK 2) 5 := by decide +kernel

theorem test_kMov : after (exec (.kMov 3 2) (st.setK 2 5)) fun t => gives t (t.readK 3) 5 := by decide +kernel

theorem test_kModr :
    after (exec (.kModr 1 1) (st.setK 1 (BitVec.ofNat 384 (orderR + 7)))) fun t => gives t (t.readK 1) 7 := by
  decide +kernel

theorem test_fpLd :
    after (exec (.fpLd 1 1 0x30) ((st.setA 1 0x100).storeDmem 0x130 (beBytes 48 (Config.p - 1)))) fun t => gives
      t (t.readF 1) (Fp.ofNat (Config.p - 1)) := by decide +kernel

theorem test_fpLd_2 :
    after (exec (.fpLd 1 1 0x30) ((st.setA 1 0x100).storeDmem 0x130 (beBytes 48 Config.p))) (faulted 5 0x130) := by
  decide +kernel

theorem test_fpSt :
    after (exec (.fpSt 2 0 0x200) (st.setF 2 (Fp.ofNat (Config.p - 2)))) fun t => memory t 0x200 48 == Config.p
      - 2 && t.dmemByte 0x200 == 0x1a && t.dmemByte 0x22F == 0xa9 := by decide +kernel

theorem test_fpLi : after (exec (.fpLi 1 65535) st) fun t => gives t (t.readF 1) (Fp.ofNat 65535) := by decide +kernel

theorem test_fpMov :
    after (exec (.fpMov 2 1) (st.setF 1 (Fp.ofNat 9))) fun t => gives t (t.readF 2) (Fp.ofNat 9) := by decide +kernel

theorem test_fpAdd :
    after (exec (.fpAdd 3 1 2) ((st.setF 1 (Fp.ofNat (Config.p - 1))).setF 2 (Fp.ofNat 1))) fun t => gives t
      (t.readF 3) (Fp.ofNat 0) := by decide +kernel

theorem test_fpSub :
    after (exec (.fpSub 3 1 2) ((st.setF 1 (Fp.ofNat 0)).setF 2 (Fp.ofNat 1))) fun t => gives t (t.readF 3)
      (Fp.ofNat (Config.p - 1)) := by decide +kernel

theorem test_fpNeg :
    after (exec (.fpNeg 2 1) (st.setF 1 (Fp.ofNat 0))) fun t => gives t (t.readF 2) (Fp.ofNat 0) := by decide +kernel

theorem test_fpMul :
    after (exec (.fpMul 3 1 2) ((st.setF 1 (Fp.ofNat (Config.p - 1))).setF 2 (Fp.ofNat (Config.p - 1)))) fun t
      => gives t (t.readF 3) (Fp.ofNat 1) := by decide +kernel

theorem test_fpSqr :
    after (exec (.fpSqr 2 1) (st.setF 1 (Fp.ofNat (Config.p - 2)))) fun t => gives t (t.readF 2) (Fp.ofNat 4) := by
  decide +kernel

theorem test_fpCube :
    after (exec (.fpCube 2 1) (st.setF 1 (Fp.ofNat 3))) fun t => gives t (t.readF 2) (Fp.ofNat 27) := by
  decide +kernel

theorem test_fpHalve :
    after (exec (.fpHalve 2 1) (st.setF 1 (Fp.ofNat 1))) fun t => gives t (t.readF 2) (Fp.ofNat
      0xd0088f51cbff34d258dd3db21a5d66bb23ba5c279c2895fb39869507b587b120f55ffff58a9ffffdcff7fffffffd556) := by
  decide +kernel

theorem test_fpScale :
    after (exec (.fpScale 2 1 1) ((st.setF 1 (Fp.ofNat 3)).setK 1 (BitVec.ofNat 384 Config.p))) fun t => gives t
      (t.readF 2) (Fp.ofNat 0) := by decide +kernel

theorem test_fpScale_2 :
    after (exec (.fpScale 2 1 1) ((st.setF 1 (Fp.ofNat 3)).setK 1 (BitVec.ofNat 384
      0xffffffffffffffffffffffffffffffffffffffffffffffffffffffffffffffffffffffffffffffffffffffffffffffff))) fun
      t => gives t (t.readF 2) (Fp.ofNat
      0xde0f8777c82e0857dde005a606d6b999e7c71f069ece0514f7823c40df41de886840025e97c0007ee1d00000009aa9e) := by
  decide +kernel

theorem test_fpPow :
    after (exec (.fpPow 2 1 1) ((st.setF 1 (Fp.ofNat 2)).setK 1 10)) fun t => gives t (t.readF 2) (Fp.ofNat
      1024) := by decide +kernel

theorem test_fpPow_2 :
    after (exec (.fpPow 2 1 1) ((st.setF 1 (Fp.ofNat 0)).setK 1 0)) fun t => gives t (t.readF 2) (Fp.ofNat 1) := by
  decide +kernel

theorem test_fpInv :
    after (exec (.fpInv 2 1) (st.setF 1 (Fp.ofNat 3))) fun t => gives t (t.readF 2) (Fp.ofNat
      0x11560bf17baa99bc32126fced787c88f984f87adf7ae0c7f9a208c6b4f20a4181472aaa9cb8d555526a9ffffffffc71d) := by
  decide +kernel

theorem test_fpInv_2 : after (exec (.fpInv 2 1) (st.setF 1 (Fp.ofNat 0))) fun t => faulted 6 0 t := by decide +kernel

theorem test_fpDiv :
    after (exec (.fpDiv 3 1 2) ((st.setF 1 (Fp.ofNat 1)).setF 2 (Fp.ofNat 3))) fun t => gives t (t.readF 3)
      (Fp.ofNat
      0x11560bf17baa99bc32126fced787c88f984f87adf7ae0c7f9a208c6b4f20a4181472aaa9cb8d555526a9ffffffffc71d) := by
  decide +kernel

theorem test_fpDiv_2 :
    after (exec (.fpDiv 3 1 2) ((st.setF 1 (Fp.ofNat 1)).setF 2 (Fp.ofNat 0))) fun t => faulted 6 0 t := by
  decide +kernel

theorem test_fpSqrt :
    after (exec (.fpSqrt 2 1) (st.setF 1 (Fp.ofNat 4))) fun t => gives t (t.readF 2) (Fp.ofNat (Config.p - 2)) := by
  decide +kernel

theorem test_fpSqrt_2 : after (exec (.fpSqrt 2 1) (st.setF 1 (Fp.ofNat 2))) fun t => faulted 7 0 t := by
  decide +kernel

theorem test_fpEq :
    after (exec (.fpEq 1 2) ((st.setF 1 (Fp.ofNat 5)).setF 2 (Fp.ofNat (Config.p - 5)))) fun t => tests false t := by
  decide +kernel

theorem test_fpIszero : after (exec (.fpIszero 1) (st.setF 1 (Fp.ofNat 0))) fun t => tests true t := by decide +kernel

theorem test_fpIsone : after (exec (.fpIsone 1) (st.setF 1 (Fp.ofNat (Config.p - 1)))) fun t => tests false t := by
  decide +kernel

theorem test_fp2Ld :
    after (exec (.fp2Ld 1 1 0x60) ((st.storeDmem 0x160 ((List.range 2).flatMap fun i => beBytes 48 (i +
      1))).setA 1 0x100)) fun t => gives t (t.readQ 1) (mkFp2 1 2) := by decide +kernel

theorem test_fp2St :
    after (exec (.fp2St 2 0 0x300) (st.setQ 2 (mkFp2 1 2))) fun t => t.dmemByte 0x32F == 1 && t.dmemByte 0x35F
      == 2 && memory t 0x300 96 == 2 ^ 384 + 2 := by decide +kernel

theorem test_fp2Mov :
    after (exec (.fp2Mov 3 0) (st.setQ 0 (mkFp2 1 2))) fun t => gives t (t.readQ 3) (mkFp2 1 2) := by decide +kernel

theorem test_fp2Li : after (exec (.fp2Li 1 5) st) fun t => gives t (t.readQ 1) (mkFp2 5 0) := by decide +kernel

theorem test_fp2Add :
    after (exec (.fp2Add 3 1 2) ((st.setQ 1 (mkFp2 1 2)).setQ 2 (mkFp2 3 4))) fun t => gives t (t.readQ 3)
      (mkFp2 4 6) := by decide +kernel

theorem test_fp2Sub :
    after (exec (.fp2Sub 3 1 2) ((st.setQ 1 (mkFp2 1 2)).setQ 2 (mkFp2 3 4))) fun t => gives t (t.readQ 3)
      (mkFp2 (Config.p - 2) (Config.p - 2)) := by decide +kernel

theorem test_fp2Neg :
    after (exec (.fp2Neg 2 1) (st.setQ 1 (mkFp2 1 2))) fun t => gives t (t.readQ 2) (mkFp2 (Config.p - 1)
      (Config.p - 2)) := by decide +kernel

theorem test_fp2Mul :
    after (exec (.fp2Mul 3 1 2) ((st.setQ 1 (mkFp2 1 2)).setQ 2 (mkFp2 3 4))) fun t => gives t (t.readQ 3)
      (mkFp2 (Config.p - 5) 10) := by decide +kernel

theorem test_fp2Sqr :
    after (exec (.fp2Sqr 2 1) (st.setQ 1 (mkFp2 1 2))) fun t => gives t (t.readQ 2) (mkFp2 (Config.p - 3) 4) := by
  decide +kernel

theorem test_fp2Cube :
    after (exec (.fp2Cube 2 1) (st.setQ 1 (mkFp2 1 2))) fun t => gives t (t.readQ 2) (mkFp2 (Config.p - 11)
      (Config.p - 2)) := by decide +kernel

theorem test_fp2Halve :
    after (exec (.fp2Halve 2 1) (st.setQ 1 (mkFp2 1 2))) fun t => gives t (t.readQ 2) (mkFp2
      0xd0088f51cbff34d258dd3db21a5d66bb23ba5c279c2895fb39869507b587b120f55ffff58a9ffffdcff7fffffffd556 1) := by
  decide +kernel

theorem test_fp2Scale :
    after (exec (.fp2Scale 2 1 1) ((st.setQ 1 (mkFp2 1 2)).setK 1 7)) fun t => gives t (t.readQ 2) (mkFp2 7 14) := by
  decide +kernel

theorem test_fp2Pow :
    after (exec (.fp2Pow 2 1 1) ((st.setQ 1 (mkFp2 1 2)).setK 1 (BitVec.ofNat 384 Config.p))) fun t => gives t
      (t.readQ 2) (mkFp2 1 (Config.p - 2)) := by decide +kernel

theorem test_fp2Inv :
    after (exec (.fp2Inv 2 1) (st.setQ 1 (mkFp2 0 1))) fun t => gives t (t.readQ 2) (mkFp2 0 (Config.p - 1)) := by
  decide +kernel

theorem test_fp2Inv_2 : after (exec (.fp2Inv 2 1) (st.setQ 1 (mkFp2 0 0))) fun t => faulted 6 0 t := by decide +kernel

theorem test_fp2Div :
    after (exec (.fp2Div 3 1 2) ((st.setQ 1 (mkFp2 (Config.p - 5) 10)).setQ 2 (mkFp2 3 4))) fun t => gives t
      (t.readQ 3) (mkFp2 1 2) := by decide +kernel

theorem test_fp2Div_2 :
    after (exec (.fp2Div 3 1 2) ((st.setQ 1 (mkFp2 1 2)).setQ 2 (mkFp2 0 0))) fun t => faulted 6 0 t := by
  decide +kernel

theorem test_fp2Sqrt :
    after (exec (.fp2Sqrt 2 1) (st.setQ 1 (mkFp2 2 0))) fun t => gives t (t.readQ 2) (mkFp2 0
      0xca2f5e1c98166837ab7e0db6ba8acdad404902d6dde8c027741f672f58c729841dccd9fcb7bf41629ddf60824381299) := by
  decide +kernel

theorem test_fp2Sqrt_2 : after (exec (.fp2Sqrt 2 1) (st.setQ 1 (mkFp2 1 1))) fun t => faulted 7 0 t := by
  decide +kernel

theorem test_fp2Eq :
    after (exec (.fp2Eq 1 2) ((st.setQ 1 (mkFp2 1 2)).setQ 2 (mkFp2 1 (Config.p - 2)))) fun t => tests false t := by
  decide +kernel

theorem test_fp2Iszero : after (exec (.fp2Iszero 1) (st.setQ 1 (mkFp2 0 1))) fun t => tests false t := by
  decide +kernel

theorem test_fp2Isone : after (exec (.fp2Isone 1) (st.setQ 1 (mkFp2 1 0))) fun t => tests true t := by decide +kernel

theorem test_fp2Pack :
    after (exec (.fp2Pack 1 1 2) ((st.setF 1 (Fp.ofNat 1)).setF 2 (Fp.ofNat 2))) fun t => gives t (t.readQ 1)
      (mkFp2 1 2) := by decide +kernel

theorem test_fp2Get :
    after (exec (.fp2Get 3 1 1) (st.setQ 1 (mkFp2 1 2))) fun t => gives t (t.readF 3) (Fp.ofNat 2) := by
  decide +kernel

theorem test_fp6Ld :
    after (exec (.fp6Ld 1 1 0x120) (st.storeDmem 0x120 ((List.range 6).flatMap fun i => beBytes 48 (i + 1))))
      fun t => gives t (t.readS 1) (fp6 1 2 3 4 5 6) := by decide +kernel

theorem test_fp6St :
    after (exec (.fp6St 2 0 0x400) (st.setS 2 (fp6 1 2 3 4 5 6))) fun t => (List.range 6).map (fun i => memory t
      (0x400 + 48 * i) 48) == [1, 2, 3, 4, 5, 6] && t.dmem.length == 288 := by decide +kernel

theorem test_fp6Mov :
    after (exec (.fp6Mov 3 0) (st.setS 0 (fp6 1 2 3 4 5 6))) fun t => gives t (t.readS 3) (fp6 1 2 3 4 5 6) := by
  decide +kernel

theorem test_fp6Li : after (exec (.fp6Li 1 9) st) fun t => gives t (t.readS 1) (fp6 9 0 0 0 0 0) := by decide +kernel

theorem test_fp6Add :
    after (exec (.fp6Add 3 1 2) ((st.setS 1 (fp6 1 2 3 4 5 6)).setS 2 (fp6 7 8 9 10 11 12))) fun t => gives t
      (t.readS 3) (fp6 8 10 12 14 16 18) := by decide +kernel

theorem test_fp6Sub :
    after (exec (.fp6Sub 3 1 2) ((st.setS 1 (fp6 1 2 3 4 5 6)).setS 2 (fp6 7 8 9 10 11 12))) fun t => gives t
      (t.readS 3) (fp6 (Config.p - 6) (Config.p - 6) (Config.p - 6) (Config.p - 6) (Config.p - 6) (Config.p -
      6)) := by decide +kernel

theorem test_fp6Neg :
    after (exec (.fp6Neg 2 1) (st.setS 1 (fp6 1 2 3 4 5 6))) fun t => gives t (t.readS 2) (fp6 (Config.p - 1)
      (Config.p - 2) (Config.p - 3) (Config.p - 4) (Config.p - 5) (Config.p - 6)) := by decide +kernel

theorem test_fp6Mul :
    after (exec (.fp6Mul 3 1 2) ((st.setS 1 (fp6 1 2 3 4 5 6)).setS 2 (fp6 7 8 9 10 11 12))) fun t => gives t
      (t.readS 3) (fp6 (Config.p - 223) 176 (Config.p - 165) 189 (Config.p - 39) 182) := by decide +kernel

theorem test_fp6Sqr :
    after (exec (.fp6Sqr 2 1) (st.setS 1 (fp6 1 2 3 4 5 6))) fun t => gives t (t.readS 2) (fp6 (Config.p - 97)
      62 (Config.p - 81) 69 (Config.p - 21) 56) := by decide +kernel

theorem test_fp6Cube :
    after (exec (.fp6Cube 2 1) (st.setS 1 (fp6 1 2 3 4 5 6))) fun t => gives t (t.readS 2) (fp6 (Config.p -
      1270) (Config.p - 1295) (Config.p - 1353) (Config.p - 582) (Config.p - 1509) (Config.p - 375)) := by
  decide +kernel

theorem test_fp6Halve :
    after (exec (.fp6Halve 2 1) (st.setS 1 (fp6 2 4 6 8 10 12))) fun t => gives t (t.readS 2) (fp6 1 2 3 4 5 6) := by
  decide +kernel

theorem test_fp6Scale :
    after (exec (.fp6Scale 2 1 1) ((st.setS 1 (fp6 1 2 3 4 5 6)).setK 1 3)) fun t => gives t (t.readS 2) (fp6 3
      6 9 12 15 18) := by decide +kernel

theorem test_fp6Pow :
    after (exec (.fp6Pow 1 0 1) ((st.setS 0 (⟨Fp2.zero, Fp2.one, Fp2.zero⟩ : Fp6)).setK 1 6)) fun t => gives t
      (t.readS 1) (fp6 0 2 0 0 0 0) := by decide +kernel

theorem test_fp6Inv :
    after (exec (.fp6Inv 1 0) (st.setS 0 (⟨Fp2.zero, Fp2.one, Fp2.zero⟩ : Fp6))) fun t => gives t (t.readS 1)
      (⟨mkFp2 0 0, mkFp2 0 0, mkFp2 ((Config.p + 1) / 2) ((Config.p - 1) / 2)⟩ : Fp6) := by decide +kernel

theorem test_fp6Inv_2 : after (exec (.fp6Inv 2 1) (st.setS 1 (fp6 0 0 0 0 0 0))) fun t => faulted 6 0 t := by
  decide +kernel

theorem test_fp6Div :
    after (exec (.fp6Div 2 0 1) ((st.setS 0 (fp6 1 1 0 0 0 0)).setS 1 (⟨Fp2.zero, Fp2.one, Fp2.zero⟩ : Fp6)))
      fun t => gives t (t.readS 2) (fp6 0 0 0 0 1 0) := by decide +kernel

theorem test_fp6Eq :
    after (exec (.fp6Eq 1 2) ((st.setS 1 (fp6 1 2 3 4 5 6)).setS 2 (fp6 1 2 3 4 5 6))) fun t => tests true t := by
  decide +kernel

theorem test_fp6Iszero : after (exec (.fp6Iszero 1) (st.setS 1 (fp6 1 2 3 4 5 6))) fun t => tests false t := by
  decide +kernel

theorem test_fp6Isone : after (exec (.fp6Isone 1) (st.setS 1 (fp6 1 0 0 0 0 0))) fun t => tests true t := by
  decide +kernel

theorem test_fp6Pack :
    after (exec (.fp6Pack 1 1 2 3) (((st.setQ 1 (mkFp2 1 2)).setQ 2 (mkFp2 3 4)).setQ 3 (mkFp2 5 6))) fun t =>
      gives t (t.readS 1) (fp6 1 2 3 4 5 6) := by decide +kernel

theorem test_fp6Get :
    after (exec (.fp6Get 4 1 2) (st.setS 1 (fp6 1 2 3 4 5 6))) fun t => gives t (t.readQ 4) (mkFp2 5 6) := by
  decide +kernel

/-- The bytes of a load: the lowest coordinate first (R65). -/
theorem test_fp12Ld : (parseFp12 0 ((List.range 12).flatMap fun i => beBytes 48 (i + 1))).toOption == some elem := by
  decide +kernel

/-- The first group that is not below `p` is reported (R526). -/
theorem test_fp12Ld_2 :
    after (exec (.fp12Ld 1 1 0) (((st.storeDmem 0 ((List.range 12).flatMap fun i => beBytes 48 (i +
      1))).storeDmem 192 (beBytes 48 Config.p)).storeDmem 528 (beBytes 48 Config.p))) (faulted 5 192) := by
  decide +kernel

theorem test_fp12St :
    after (exec (.fp12St 2 0 0x800) (st.setT 2 elem)) fun t => [t.dmemByte 0x82F, t.dmemByte 0x85F, t.dmemByte
      0xA3F] == [1, 2, 12] && t.dmem.length == 576 := by decide +kernel

theorem test_fp12Mov : after (exec (.fp12Mov 3 0) (st.setT 0 elem)) fun t => gives t (t.readT 3) elem := by
  decide +kernel

theorem test_fp12Li : after (exec (.fp12Li 1 1) st) fun t => gives t (t.readT 1) Fp12.one := by decide +kernel

theorem test_fp12Add :
    after (exec (.fp12Add 3 1 2) ((st.setT 1 elem).setT 2 ⟨fp6 13 14 15 16 17 18, fp6 19 20 21 22 23 24⟩)) fun t
      => gives t (t.readT 3) ⟨fp6 14 16 18 20 22 24, fp6 26 28 30 32 34 36⟩ := by decide +kernel

/-- `1 - w`, by hand. -/
theorem test_fp12Sub :
    after (exec (.fp12Sub 0 1 2) ((st.setT 1 Fp12.one).setT 2 (⟨Fp6.zero, Fp6.one⟩ : Fp12))) fun t => gives t
      (t.readT 0) (⟨Fp6.one, Fp6.emb (Fp.ofNat (Config.p - 1))⟩ : Fp12) := by decide +kernel

theorem test_fp12Neg :
    after (exec (.fp12Neg 2 1) (st.setT 1 elem)) fun t => gives t (t.readT 2) ⟨fp6 (Config.p - 1) (Config.p - 2)
      (Config.p - 3) (Config.p - 4) (Config.p - 5) (Config.p - 6), fp6 (Config.p - 7) (Config.p - 8) (Config.p -
      9) (Config.p - 10) (Config.p - 11) (Config.p - 12)⟩ := by decide +kernel

theorem test_fp12Mul :
    after (exec (.fp12Mul 3 1 2) ((st.setT 1 elem).setT 2 ⟨fp6 13 14 15 16 17 18, fp6 19 20 21 22 23 24⟩)) fun t
      => gives t (t.readT 3) ⟨fp6 (Config.p - 1650) 1405 (Config.p - 1282) 1475 (Config.p - 690) 1505, fp6
      (Config.p - 1238) 1240 (Config.p - 810) 1290 (Config.p - 150) 1300⟩ := by decide +kernel

theorem test_fp12Mul_2 :
    after (exec (.fp12Mul 3 1 1) (st.setT 1 ⟨fp6 0 0 0 0 0 0, fp6 1 0 0 0 0 0⟩)) fun t => gives t (t.readT 3)
      ⟨fp6 0 0 1 0 0 0, fp6 0 0 0 0 0 0⟩ := by decide +kernel

theorem test_fp12Sqr :
    after (exec (.fp12Sqr 2 1) (st.setT 1 elem)) fun t => gives t (t.readT 2) ⟨fp6 (Config.p - 678) 529
      (Config.p - 574) 575 (Config.p - 342) 581, fp6 (Config.p - 446) 352 (Config.p - 330) 378 (Config.p - 78)
      364⟩ := by decide +kernel

theorem test_fp12Cube :
    after (exec (.fp12Cube 2 1) (st.setT 1 elem)) fun t => gives t (t.readT 2) ⟨fp6 (Config.p - 31096) (Config.p
      - 29483) (Config.p - 33063) (Config.p - 16959) (Config.p - 33252) (Config.p - 5541), fp6 (Config.p -
      39774) (Config.p - 28035) (Config.p - 40789) (Config.p - 13265) (Config.p - 39414) (Config.p - 2445)⟩ := by
  decide +kernel

theorem test_fp12Halve :
    after (exec (.fp12Halve 1 0) (st.setT 0 (Fp12.emb (Fp.ofNat 2)))) fun t => gives t (t.readT 1) Fp12.one := by
  decide +kernel

theorem test_fp12Scale :
    after (exec (.fp12Scale 2 1 1) ((st.setT 1 elem).setK 1 2)) fun t => gives t (t.readT 2) ⟨fp6 2 4 6 8 10 12,
      fp6 14 16 18 20 22 24⟩ := by decide +kernel

theorem test_fp12Pow :
    after (exec (.fp12Pow 1 0 1) ((st.setT 0 (⟨Fp6.zero, Fp6.one⟩ : Fp12)).setK 1 12)) fun t => gives t (t.readT
      1) (⟨(fp6 0 2 0 0 0 0), Fp6.zero⟩ : Fp12) := by decide +kernel

theorem test_fp12Inv :
    after (exec (.fp12Inv 1 0) (st.setT 0 (⟨Fp6.zero, Fp6.one⟩ : Fp12))) fun t => gives t (t.readT 1)
      (⟨Fp6.zero, ⟨mkFp2 0 0, mkFp2 0 0, mkFp2 ((Config.p + 1) / 2) ((Config.p - 1) / 2)⟩⟩ : Fp12) := by
  decide +kernel

theorem test_fp12Inv_2 : after (exec (.fp12Inv 2 1) (st.setT 1 Fp12.zero)) fun t => faulted 6 0 t := by decide +kernel

theorem test_fp12Div :
    after (exec (.fp12Div 2 0 1) ((st.setT 0 elem).setT 1 elem)) fun t => gives t (t.readT 2) Fp12.one := by
  decide +kernel

theorem test_fp12Eq :
    after (exec (.fp12Eq 1 2) ((st.setT 1 elem).setT 2 ⟨fp6 13 14 15 16 17 18, fp6 19 20 21 22 23 24⟩)) fun t =>
      tests false t := by decide +kernel

theorem test_fp12Iszero : after (exec (.fp12Iszero 1) (st.setT 1 Fp12.one)) fun t => tests false t := by
  decide +kernel

theorem test_fp12Isone : after (exec (.fp12Isone 1) (st.setT 1 Fp12.one)) fun t => tests true t := by decide +kernel

theorem test_fp12Pack :
    after (exec (.fp12Pack 1 1 2) ((st.setS 1 (fp6 1 2 3 4 5 6)).setS 2 (fp6 7 8 9 10 11 12))) fun t => gives t
      (t.readT 1) elem := by decide +kernel

theorem test_fp12Get :
    after (exec (.fp12Get 3 1 1) (st.setT 1 elem)) fun t => gives t (t.readS 3) (fp6 7 8 9 10 11 12) := by
  decide +kernel

theorem test_fp12Powp :
    after (exec (.fp12Powp 1 0 1) (st.setT 0 (⟨Fp6.zero, Fp6.one⟩ : Fp12))) fun t => gives t (t.readT 1)
      (⟨Fp6.zero, ⟨mkFp2 frobW1a frobW1b, Fp2.zero, Fp2.zero⟩⟩ : Fp12) := by decide +kernel

theorem test_fp12Powp_2 :
    after (exec (.fp12Powp 1 0 6) (st.setT 0 (⟨Fp6.zero, Fp6.one⟩ : Fp12))) fun t => gives t (t.readT 1)
      (⟨Fp6.zero, Fp6.emb (Fp.ofNat (Config.p - 1))⟩ : Fp12) := by decide +kernel

theorem test_fp12Conj :
    after (exec (.fp12Conj 2 1) (st.setT 1 elem)) fun t => gives t (t.readT 2) ⟨fp6 1 2 3 4 5 6, fp6 (Config.p -
      7) (Config.p - 8) (Config.p - 9) (Config.p - 10) (Config.p - 11) (Config.p - 12)⟩ := by decide +kernel

theorem test_fp12Cycsqr : after (exec (.fp12Cycsqr 2 1) (st.setT 1 Fp12.one)) fun t => gives t (t.readT 2) Fp12.one := by
  decide +kernel

/-- Outside the subgroup: some value, no fault (R319). -/
theorem test_fp12Cycsqr_2 :
    after (exec (.fp12Cycsqr 2 1) (st.setT 1 elem)) fun t => t.t[2].valid && t.draws == 1 && t.run == .running
      && t.pc == 1 := by decide +kernel

theorem test_fp12Cycpow :
    after (exec (.fp12Cycpow 2 1 1) ((st.setT 1 elem).setK 1 1)) fun t => gives t (t.readT 2) elem && t.draws ==
      0 := by decide +kernel

theorem test_fp12Cycpow_2 :
    after (exec (.fp12Cycpow 2 1 1) ((st.setT 1 elem).setK 1 2)) fun t => t.t[2].valid && t.draws == 1 && t.run
      == .running := by decide +kernel

theorem test_g1Zero : after (exec (.g1Zero 3) st) fun t => gives t (t.readG 3) (g1 0 1 0) := by decide +kernel

theorem test_g1Mov : after (exec (.g1Mov 2 1) (st.setG 1 (g1 1 2 3))) fun t => gives t (t.readG 2) (g1 1 2 3) := by
  decide +kernel

theorem test_g1Add :
    after (exec (.g1Add 3 1 2) ((st.setG 1 (g1 1 2 3)).setG 2 (g1 4 5 6))) fun t => gives t (t.readG 3) (g1
      (Config.p - 8510) (Config.p - 43964) 6258) := by decide +kernel

theorem test_g1Dbl :
    after (exec (.g1Dbl 2 1) (st.setG 1 (g1 0 2 1))) fun t => gives t (t.readG 2) (g1 0 (Config.p - 128) 64) := by
  decide +kernel

theorem test_g1Neg :
    after (exec (.g1Neg 2 1) (st.setG 1 (g1 0 2 1))) fun t => gives t (t.readG 2) (g1 0 (Config.p - 2) 1) := by
  decide +kernel

theorem test_g1Scale :
    after (exec (.g1Scale 2 1 1) ((st.setG 1 (g1 0 2 1)).setK 1 0)) fun t => gives t (t.readG 2) (g1 0 1 0) := by
  decide +kernel

theorem test_g1Scale_2 :
    after (exec (.g1Scale 2 1 1) ((st.setG 1 (g1 0 2 1)).setK 1 4)) fun t => gives t (t.readG 2) (g1 0 (Config.p
      - 2147483648) (Config.p - 1073741824)) := by decide +kernel

theorem test_g1Clrcof :
    after (exec (.g1Clrcof 2 1) (st.setG 1 (g1 0 2 1))) fun t => gives t (t.readG 2) (g1 0
      0x9184ad8236df5f502e343b2ac06da1a393a08cc58cbaa37db9b0dd0e55a8eaa1f653852e9cb9a8f48617052f500a2b6 0) := by
  decide +kernel

theorem test_g1Fromaff :
    after (exec (.g1Fromaff 1 1 2) ((st.setF 1 (Fp.ofNat 0)).setF 2 (Fp.ofNat 1))) fun t => gives t (t.readG 1)
      (g1 0 1 0) := by decide +kernel

theorem test_g1Toaff :
    after (exec (.g1Toaff 3 1 4) (st.setG 1 (g1 5 7 0))) fun t => gives t (t.readF 3) (Fp.ofNat 0) && gives t
      (t.readF 4) (Fp.ofNat 1) := by decide +kernel

/-- `x` is written first, then `y` (R393). -/
theorem test_g1Toaff_2 :
    after (exec (.g1Toaff 3 1 3) (st.setG 1 (g1 0 4 2))) fun t => gives t (t.readF 3) (Fp.ofNat 2) := by
  decide +kernel

theorem test_g1Pack :
    after (exec (.g1Pack 1 1 2 3) (((st.setF 1 (Fp.ofNat 1)).setF 2 (Fp.ofNat 2)).setF 3 (Fp.ofNat 3))) fun t =>
      gives t (t.readG 1) (g1 1 2 3) := by decide +kernel

theorem test_g1Get :
    after (exec (.g1Get 5 1 2) (st.setG 1 (g1 1 2 3))) fun t => gives t (t.readF 5) (Fp.ofNat 3) := by decide +kernel

theorem test_g1Eq :
    after (exec (.g1Eq 1 2) ((st.setG 1 (g1 0 1 0)).setG 2 (g1 0 (Config.p - 128) 0))) fun t => tests true t := by
  decide +kernel

theorem test_g1Iszero : after (exec (.g1Iszero 3) (st.setG 3 (g1 0 (Config.p - 128) 0))) fun t => tests true t := by
  decide +kernel

theorem test_g1Isvalid : after (exec (.g1Isvalid 1) (st.setG 1 (g1 0 0 0))) fun t => tests true t := by decide +kernel

theorem test_g1Isvalid_2 : after (exec (.g1Isvalid 1) (st.setG 1 (g1 1 2 3))) fun t => tests false t := by
  decide +kernel

theorem test_g2Zero : after (exec (.g2Zero 3) st) fun t => gives t (t.readH 3) (g2 0 0 1 0 0 0) := by decide +kernel

theorem test_g2Mov :
    after (exec (.g2Mov 2 1) (st.setH 1 (g2 1 2 3 4 5 6))) fun t => gives t (t.readH 2) (g2 1 2 3 4 5 6) := by
  decide +kernel

theorem test_g2Add :
    after (exec (.g2Add 3 1 2) ((st.setH 1 (g2 1 2 3 4 5 6)).setH 2 (g2 7 8 9 10 11 12))) fun t => gives t
      (t.readH 3) (g2 209494 509500 (Config.p - 1263251) 4345716 (Config.p - 205632) (Config.p - 362968)) := by
  decide +kernel

theorem test_g2Dbl :
    after (exec (.g2Dbl 2 1) (st.setH 1 (g2 1 2 3 4 5 6))) fun t => gives t (t.readH 2) (g2 9310 68380 (Config.p
      - 378311) 993048 (Config.p - 31200) (Config.p - 76600)) := by decide +kernel

theorem test_g2Neg :
    after (exec (.g2Neg 2 1) (st.setH 1 (g2 1 2 3 4 5 6))) fun t => gives t (t.readH 2) (g2 1 2 (Config.p - 3)
      (Config.p - 4) 5 6) := by decide +kernel

theorem test_g2Scale :
    after (exec (.g2Scale 2 1 1) ((st.setH 1 (g2 1 2 3 4 5 6)).setK 1 2)) fun t => gives t (t.readH 2) (⟨mkFp2
      9310 68380, mkFp2 (Config.p - 0x5c5c7) 0xf2718, mkFp2 (Config.p - 31200) (Config.p - 76600)⟩ : G2Point) := by
  decide +kernel

/-- A point of the curve over Fp2 that is not in G2 (R426). -/
def pointH : G2Point :=
  ⟨mkFp2 0 1,
   mkFp2 0x06af0e0437ff400b6831e36d6bd17ffe48395dabc2d3435e77f76e17009241c5ee67992f72ec05f4c81084fbede3cc09
    0x05f3e7dd918226781285fd6dffd72cdc8bcb3281ab0b48a3ff4a885bf4fa30d253753470588fee2161cd710c36544690,
   mkFp2 1 0⟩

theorem test_g2Clrcof :
    after (exec (.g2Clrcof 2 1) (st.setH 1 pointH)) fun t => t.h[2].valid && Fp2.mul (mkFp2
      0x4ab48ec30fb0eecf3d1e37a0726eb24fa7a0204778eae5cd6bb02876720790ce227b38c052f60d80c9942b60d7344e4
      0x1499ffb0925694ae4f71050b0383678d918b254213a88b7368044396ad039049f733ad458426a7a62e634de4024ae6e2)
      t.h[2].val.z == t.h[2].val.x := by decide +kernel

theorem test_g2Fromaff :
    after (exec (.g2Fromaff 1 1 2) ((st.setQ 1 (mkFp2 0 0)).setQ 2 (mkFp2 1 0))) fun t => gives t (t.readH 1)
      (g2 0 0 1 0 0 0) := by decide +kernel

theorem test_g2Fromaff_2 :
    after (exec (.g2Fromaff 1 1 2) ((st.setQ 1 (mkFp2 1 2)).setQ 2 (mkFp2 3 4))) fun t => gives t (t.readH 1)
      (g2 1 2 3 4 1 0) := by decide +kernel

theorem test_g2Toaff :
    after (exec (.g2Toaff 3 1 4) (st.setH 1 (g2 2 4 6 8 2 0))) fun t => gives t (t.readQ 3) (mkFp2 1 2) && gives
      t (t.readQ 4) (mkFp2 3 4) := by decide +kernel

theorem test_g2Pack :
    after (exec (.g2Pack 1 1 2 3) (((st.setQ 1 (mkFp2 1 2)).setQ 2 (mkFp2 3 4)).setQ 3 (mkFp2 5 6))) fun t =>
      gives t (t.readH 1) (g2 1 2 3 4 5 6) := by decide +kernel

theorem test_g2Get :
    after (exec (.g2Get 5 1 1) (st.setH 1 (g2 1 2 3 4 5 6))) fun t => gives t (t.readQ 5) (mkFp2 3 4) := by
  decide +kernel

theorem test_g2Eq :
    after (exec (.g2Eq 1 2) ((st.setH 1 (g2 1 2 3 4 1 0)).setH 2 (g2 2 4 6 8 2 0))) fun t => tests true t := by
  decide +kernel

theorem test_g2Iszero : after (exec (.g2Iszero 3) (st.setH 3 (g2 9 9 0 0 0 0))) fun t => tests true t := by
  decide +kernel

theorem test_g2Isvalid : after (exec (.g2Isvalid 1) (st.setH 1 (g2 1 2 3 4 5 6))) fun t => tests false t := by
  decide +kernel

theorem test_g2Isvalid_2 : after (exec (.g2Isvalid 1) (st.setH 1 (g2 0 0 1 0 0 0))) fun t => tests true t := by
  decide +kernel

theorem test_g2Psi :
    after (exec (.g2Psi 2 1) (st.setH 1 (g2 1 2 3 4 5 6))) fun t => gives t (t.readH 2) (⟨mkFp2 (2 * (rootCA +
      1)) (rootCA + 1), Fp2.mul (mkFp2 frobW3a frobW3b) (mkFp2 3 (Config.p - 4)), mkFp2 5 (Config.p - 6)⟩ :
      G2Point) := by decide +kernel

theorem test_g2Psi2 :
    after (exec (.g2Psi2 2 1) (st.setH 1 (g2 1 2 3 4 5 6))) fun t => gives t (t.readH 2) (⟨mkFp2 rootCA (2 *
      rootCA), mkFp2 (Config.p - 3) (Config.p - 4), mkFp2 5 6⟩ : G2Point) := by decide +kernel

/-- `G1GEN` (R376). -/
def genG : G1Point :=
  ⟨Fp.ofNat 0x17f1d3a73197d7942695638c4fa9ac0fc3688c4f9774b905a14e3a3f171bac586c55e83ff97a1aeffb3af00adb22c6bb,
   Fp.ofNat 0x08b3f481e3aaa0f1a09e30ed741d8ae4fcf5e095d5d00af600db18cb2c04b3edd03cc744a2888ae40caa232946c5e7e1,
   Fp.ofNat 1⟩

/-- `G2GEN` (R416). -/
def genH : G2Point :=
  ⟨mkFp2 0x024aa2b2f08f0a91260805272dc51051c6e47ad4fa403b02b4510b647ae3d1770bac0326a805bbefd48056c8c121bdb8
    0x13e02b6052719f607dacd3a088274f65596bd0d09920b61ab5da61bbdc7f5049334cf11213945d57e5ac7d055d042b7e,
   mkFp2 0x0ce5d527727d6e118cc9cdc6da2e351aadfd9baa8cbdd3a76d429a695160d12c923ac9cc3baca289e193548608b82801
    0x0606c4a02ea734cc32acd2b02bc28b99cb3e287e85a763af267492ab572e99ab3f370d275cec1da1aaa9075ff05f79be,
   mkFp2 1 0⟩

theorem test_miller :
    after (exec (.miller 0 1 1) ((st.setG 1 genG).setH 1 genH)) fun t => t.t[0].valid && t.t[0].val.c0.c0.c0 ==
      Fp.ofNat 0xd884dea7038a532183bc322e31bd35b79cddaccb161bc7ede312491c647b146131f1e4bff594b072bd566bb02d87fe3
      && t.t[0].val.c1.c2.c1 == Fp.ofNat
      0x1603a80b5bccc6072fa223a9e7875dd81d2df9193a83df42e9221f34457a947cf2fd21eda9735ce2bdfa041a55d8340f && t.pc
      == 1 := by decide +kernel

/-- The zero tests come before the validity tests (R475). -/
theorem test_miller_2 :
    after (exec (.miller 0 1 1) ((st.setG 1 ⟨Fp.ofNat 1, Fp.ofNat 2, Fp.ofNat 3⟩).setH 1 (Proj.zero curveFp2)))
      (faulted 12 2) := by decide +kernel

theorem test_finalExp : after (exec (.finalExp 1 0) (st.setT 0 Fp12.zero)) (faulted 6 0) := by decide +kernel

theorem test_finalVerify :
    after (exec (.finalVerify 0) (st.setT 0 Fp12.zero)) fun t => faulted 6 0 t && t.tflag == st.tflag := by
  decide +kernel

/-- R11: the exponent is a whole number of 4314 bits. The values of spec/95_test_vectors.md section 7 take minutes
in the kernel. -/
theorem test_final_exponent : finalExponent * orderR = Config.p ^ 12 - 1 ∧ Nat.log2 finalExponent = 4313 := by
  decide +kernel

/-- The relations of R8, and every coefficient against the power that defines it (R316, R411). -/
theorem test_constants :
    orderR = seedX ^ 4 - seedX ^ 2 + 1 ∧ (seedX + 1) ^ 2 * orderR / 3 - seedX = Config.p ∧
    (∀ n < 12, Fp2.pow xi ((Config.p ^ n - 1) / 6) = frobG12 n) ∧
    (∀ m < 6, Fp2.pow xi ((Config.p ^ m - 1) / 3) = frobG6_1 m ∧
      Fp2.pow xi (2 * (Config.p ^ m - 1) / 3) = frobG6_2 m) ∧
    Fp2.inv (Fp2.pow xi ((Config.p - 1) / 3)) = some psiCx ∧
    Fp2.inv (Fp2.pow xi ((Config.p - 1) / 2)) = some psiCy ∧
    Fp2.inv (Fp2.pow xi ((Config.p ^ 2 - 1) / 3)) = some psi2Cx := by decide +kernel

theorem test_g1Dec :
    after (exec (.g1Dec 1 0 1 0x100) ((st.setA 1 48).storeDmem 0x100 (beBytes 48 (0xA0 * 256 ^ 47 + 4)))) fun t
      => gives t (t.readG 1) (⟨Fp.ofNat 4, Fp.ofNat (Config.p -
      0x0a989badd40d6212b33cffc3f3763e9bc760f988c9926b26da9dd85e928483446346b8ed00e1de5d5ea93e354abe706c),
      Fp.ofNat 1⟩ : G1Point) := by decide +kernel

theorem test_g1Dec_2 :
    after (exec (.g1Dec 1 0 1 0x100) ((st.setA 1 48).storeDmem 0x100 (beBytes 48 (0x80 * 256 ^ 47 + 1))))
      (faulted 11 0) := by decide +kernel

theorem test_g1Enc :
    after (exec (.g1Enc 2 0 0x200) (st.setG 2 genG)) fun t => memory t 0x200 48 ==
      0x97f1d3a73197d7942695638c4fa9ac0fc3688c4f9774b905a14e3a3f171bac586c55e83ff97a1aeffb3af00adb22c6bb &&
      t.dmem.length == 48 := by decide +kernel

theorem test_g2Dec :
    after (exec (.g2Dec 1 0 1 0x100) ((st.setA 1 96).storeDmem 0x100 (beBytes 96 (0x80 * 256 ^ 95 + 1)))) fun t
      => gives t (t.readH 1) pointH := by decide +kernel

theorem test_g2Dec_2 : after (exec (.g2Dec 1 0 1 0x100) (st.setA 1 48)) (faulted 8 48) := by decide +kernel

theorem test_g2Enc :
    after (exec (.g2Enc 2 0 0x200) (st.setH 2 genH)) fun t => memory t 0x200 48 == 0x80 * 256 ^ 47 +
      0x24aa2b2f08f0a91260805272dc51051c6e47ad4fa403b02b4510b647ae3d1770bac0326a805bbefd48056c8c121bdb8 &&
      memory t 0x230 48 ==
      0x13e02b6052719f607dacd3a088274f65596bd0d09920b61ab5da61bbdc7f5049334cf11213945d57e5ac7d055d042b7e := by
  decide +kernel

/-! ### The step -/

/-- The word placed for the fetch runs next (log 6). -/
theorem test_withFetchWord :
    after (step (State.reset.withFetchWord 32 0x0A100100)) fun t => t.readA 1 == 0x100 && t.pc == 1 := by decide +kernel

/-- spec/95_test_vectors.md section 9.5: `CLRFAULT` in FAULTED leaves `pc` at the faulting instruction. -/
theorem test_clear_fault :
    after (step { (st.faultedWith 14 0x42) with pc := 2, host := [.writeReg 0x04 4] })
      fun t => t.run == .idle && t.faultCause == 0 && t.faultInfo == 0 && t.pc == 2 := by decide +kernel

/-- spec/95_test_vectors.md section 9.5: a soft reset keeps `IRQ_EN`. -/
theorem test_soft_reset :
    after (step { st with faultIe := true, tflag := true, pc := 9, host := [.writeReg 0x04 7] })
      fun t => t.run == .idle && t.faultIe && !t.tflag && t.pc == 0 && t.hostReadReg 0x1C == some 2 := by decide +kernel

/-! ### Witnesses: a concrete state and operands that meet every hypothesis of each statement that has some, for each
clause, at boundary values where the clause has a range -/

/-- A member of the cyclotomic subgroup other than 1: `elem` raised to `(p^6 - 1)(p^2 + 1)` (R318). -/
def member : Fp12 :=
  match Fp12.inv elem with
  | some i => Fp12.mul (Fp12.powp (Fp12.mul (Fp12.conj elem) i) 2) (Fp12.mul (Fp12.conj elem) i)
  | none => Fp12.one

/-- A G1 point of order 3 (spec/95_test_vectors.md section 5). -/
def pointO3 : G1Point := ⟨Fp.ofNat 0, Fp.ofNat 2, Fp.ofNat 1⟩

/-- A triple that is on no curve. -/
def off1 : G1Point := ⟨Fp.ofNat 1, Fp.ofNat 2, Fp.ofNat 3⟩

/-- A triple that is on no curve. -/
def off2 : G2Point := ⟨mkFp2 1 2, mkFp2 3 4, mkFp2 5 6⟩

/-- A running machine with registers loaded. -/
def wit : State :=
  { st with
    a := #v[0, 48, 96, 0xFFFF, 0, 0, 0, 0]
    k := ((((st.k.set 0 ⟨true, 0⟩).set 1 ⟨true, 1⟩).set 2 ⟨true, 2⟩).set 3 ⟨true, 2 ^ 384 - 1⟩)
    f := ((((st.f.set 0 ⟨true, Fp.ofNat 0⟩).set 1 ⟨true, Fp.ofNat 1⟩).set 2 ⟨true, Fp.ofNat 2⟩).set 3
      ⟨true, Fp.ofNat (Config.p - 1)⟩).set 4 ⟨true, Fp.ofNat 4⟩
    q := ((((st.q.set 0 ⟨true, Fp2.zero⟩).set 1 ⟨true, Fp2.one⟩).set 2 ⟨true, mkFp2 1 2⟩).set 3
      ⟨true, mkFp2 1 1⟩).set 4 ⟨true, mkFp2 (Config.p - 3) 4⟩
    s := (((st.s.set 0 ⟨true, Fp6.zero⟩).set 1 ⟨true, Fp6.one⟩).set 2 ⟨true, elem.c0⟩)
    t := ((((st.t.set 0 ⟨true, Fp12.zero⟩).set 1 ⟨true, Fp12.one⟩).set 2 ⟨true, elem⟩).set 3 ⟨true, member⟩)
    g := ((((st.g.set 0 ⟨true, Proj.zero curveFp⟩).set 1 ⟨true, pointO3⟩).set 2 ⟨true, off1⟩).set 3 ⟨true, genG⟩)
    h := (((st.h.set 0 ⟨true, Proj.zero curveFp2⟩).set 1 ⟨true, pointH⟩).set 2 ⟨true, off2⟩) }

/-- `wit` with these 48-byte numbers in DMEM from `a` up. -/
def filled (a : Nat) (ns : List Nat) : State := wit.storeDmem a (ns.flatMap (beBytes 48))

theorem next_of_after {r : Result} {t : State} (h : after r (fun u => decide (u = t)) = true) : r = .next t := by
  cases r with
  | next u => exact congrArg _ (of_decide_eq_true h)
  | fault _ => exact nomatch h
  | refused _ => exact nomatch h

/-- `st` with one pending host action. -/
def pending (r : RunState) (x : HostAction) : State := { st with run := r, host := [x] }

theorem test_witness_DecodeOfEncode :
    Instr.wf (.fp12Powp 7 7 11) = true ∧ Instr.wf (.banz 7 0xFFFF) = true := by decide

theorem test_witness_EncodeOfDecode : decode 0x8577000B = .ok (.fp12Powp 7 7 11) := by decide +kernel

theorem test_witness_DecodeAcceptsTableRows :
    (∃ r ∈ opcodeTable, (0x8577000B : BitVec 32) &&& r.mask = BitVec.ofNat 32 (r.opcode * 2 ^ 24) ∧
      ((0x8577000B : BitVec 32).extractLsb' 0 8).toNat ≤ r.fnMax) ∧
    ¬ (∃ r ∈ opcodeTable, (0x8577000C : BitVec 32) &&& r.mask = BitVec.ofNat 32 (r.opcode * 2 ^ 24) ∧
      ((0x8577000C : BitVec 32).extractLsb' 0 8).toNat ≤ r.fnMax) := by decide +kernel

/-- The last word of IMEM, with and without the host's turn pending. -/
theorem test_witness_StepRunsDecodedInstruction :
    let s := { (st.storeImem 4095 0x02000000) with pc := 4095 }
    (s.run = .running ∧ s.pc.toNat < s.sizes.imemWords ∧ decode (s.imemWord s.pc.toNat) = .ok .halt ∧
      s.host = []) ∧
    ({ s with host := [.turn] }.host = .turn :: []) := by decide +kernel

theorem test_witness_StepFetchAndDecodeFaults :
    (st.run = .running ∧ st.host = [] ∧ st.sizes.imemWords ≤ ({ st with pc := 4096 }).pc.toNat) ∧
    (let s := { (st.storeImem 4095 0x8577000C) with pc := 4095 }
     s.pc.toNat < s.sizes.imemWords ∧ decode (s.imemWord s.pc.toNat) = .error .indexTooBig) ∧
    (pending .running .turn).run = .running ∧ (pending .running .turn).host = .turn :: [] := by decide +kernel

theorem test_witness_StepWaitsUnlessRunning :
    (State.reset.run ≠ .running ∧ State.reset.host = []) ∧
    (pending .halted .turn).run ≠ .running ∧ (pending .halted .turn).host = .turn :: [] := by decide

theorem test_witness_ControlResults : (1 : AReg) ≠ 0 ∧ (7 : AReg) ≠ 0 := by decide

theorem test_witness_IntegerResults :
    wit.k[(0 : KReg)] = ⟨true, 0⟩ ∧ wit.k[(3 : KReg)] = ⟨true, 2 ^ 384 - 1⟩ := by decide +kernel

theorem test_witness_FpArithmeticResults :
    wit.f[(0 : FReg)] = ⟨true, Fp.ofNat 0⟩ ∧ wit.f[(3 : FReg)] = ⟨true, Fp.ofNat (Config.p - 1)⟩ ∧
    wit.k[(3 : KReg)] = ⟨true, 2 ^ 384 - 1⟩ := by decide +kernel

theorem test_witness_FpInverseAndQuotient :
    wit.f[(2 : FReg)] = ⟨true, Fp.ofNat 2⟩ ∧ wit.f[(3 : FReg)] = ⟨true, Fp.ofNat (Config.p - 1)⟩ ∧
    ((Fp.ofNat (Config.p - 1)).val ≠ 0 ∧ Nat.Coprime (Fp.ofNat (Config.p - 1)).val Config.p) ∧
    wit.f[(0 : FReg)] = ⟨true, Fp.ofNat 0⟩ ∧ (Fp.ofNat 0).val = 0 := by decide +kernel

theorem cast_ofNat (n : Nat) : ((Fp.ofNat n).val : ZMod Config.p) = n := by simp [Fp.ofNat]

/-- `ξ` has no root: its norm would make 2 a square modulo `p`, and `p` is 3 modulo 8 (R211). -/
theorem xi_is_no_square (y : Fp2) : Fp2.mul y y ≠ mkFp2 1 1 := by
  intro h
  have : Fact (Nat.Prime Config.p) := ⟨prime_modulus⟩
  have h₀ : (((Fp2.mul y y).c0.val : Nat) : ZMod Config.p) = 1 := by simp [h, mkFp2, cast_ofNat]
  have h₁ : (((Fp2.mul y y).c1.val : Nat) : ZMod Config.p) = 1 := by simp [h, mkFp2, cast_ofNat]
  simp only [Fp2.mul, Fp.mul, Fp.sub, Fp.add, Fp.neg, cast_ofNat, Nat.cast_add, Nat.cast_mul,
    Nat.cast_sub (Fin.is_le'), CharP.cast_eq_zero] at h₀ h₁
  generalize (y.c0.val : ZMod Config.p) = a at h₀ h₁
  generalize (y.c1.val : ZMod Config.p) = b at h₀ h₁
  have two : IsSquare (2 : ZMod Config.p) :=
    ⟨a ^ 2 + b ^ 2, by linear_combination (-1 - a ^ 2 + b ^ 2) * h₀ - (1 + 2 * a * b) * h₁⟩
  rw [ZMod.exists_sq_eq_two_iff (by decide)] at two
  revert two
  decide +kernel

theorem test_witness_SquareRoots :
    (wit.f[(4 : FReg)] = ⟨true, Fp.ofNat 4⟩ ∧
      (fun r => Fp.mul r r = Fp.ofNat 4) (Fp.pow (Fp.ofNat 4) ((Config.p + 1) / 4))) ∧
    (wit.f[(2 : FReg)] = ⟨true, Fp.ofNat 2⟩ ∧
      (fun r => Fp.mul r r ≠ Fp.ofNat 2) (Fp.pow (Fp.ofNat 2) ((Config.p + 1) / 4))) ∧
    (wit.q[(4 : QReg)] = ⟨true, mkFp2 (Config.p - 3) 4⟩ ∧
      Fp2.sqrt (mkFp2 (Config.p - 3) 4) = some (mkFp2 1 2)) ∧
    (wit.q[(3 : QReg)] = ⟨true, mkFp2 1 1⟩ ∧ Fp2.sqrt (mkFp2 1 1) = none) ∧
    (Fp2.mul (mkFp2 1 2) (mkFp2 1 2) = mkFp2 (Config.p - 3) 4 ∧
      wit.q[(0 : QReg)] = ⟨true, Fp2.zero⟩ ∧ Fp2.mul Fp2.zero Fp2.zero = Fp2.zero) ∧
    (∀ y, Fp2.mul y y ≠ mkFp2 1 1) := by
  exact ⟨by decide +kernel, by decide +kernel, by decide +kernel, by decide +kernel, by decide +kernel,
    xi_is_no_square⟩

theorem test_witness_Fp2ArithmeticResults :
    wit.q[(0 : QReg)] = ⟨true, Fp2.zero⟩ ∧ wit.q[(4 : QReg)] = ⟨true, mkFp2 (Config.p - 3) 4⟩ ∧
    wit.k[(3 : KReg)] = ⟨true, 2 ^ 384 - 1⟩ ∧ wit.f[(2 : FReg)] = ⟨true, Fp.ofNat 2⟩ ∧
    wit.f[(3 : FReg)] = ⟨true, Fp.ofNat (Config.p - 1)⟩ := by decide +kernel

theorem test_witness_Fp6ArithmeticResults :
    wit.s[(1 : SReg)] = ⟨true, Fp6.one⟩ ∧ wit.s[(2 : SReg)] = ⟨true, elem.c0⟩ ∧
    wit.k[(3 : KReg)] = ⟨true, 2 ^ 384 - 1⟩ ∧ wit.q[(0 : QReg)] = ⟨true, Fp2.zero⟩ ∧
    wit.q[(1 : QReg)] = ⟨true, Fp2.one⟩ ∧ wit.q[(2 : QReg)] = ⟨true, mkFp2 1 2⟩ := by decide +kernel

theorem test_witness_Fp12ArithmeticResults :
    wit.t[(1 : TReg)] = ⟨true, Fp12.one⟩ ∧ wit.t[(2 : TReg)] = ⟨true, elem⟩ ∧
    ((11 : BitVec 8).toNat ≤ 11 ∧ (0 : BitVec 8).toNat ≤ 11) ∧ wit.k[(3 : KReg)] = ⟨true, 2 ^ 384 - 1⟩ ∧
    wit.s[(1 : SReg)] = ⟨true, Fp6.one⟩ ∧ wit.s[(2 : SReg)] = ⟨true, elem.c0⟩ := by decide +kernel

theorem test_witness_TowerInverseAndQuotient :
    (wit.q[(2 : QReg)] = ⟨true, mkFp2 1 2⟩ ∧ (Fp2.inv (mkFp2 1 2)).isSome ∧ wit.q[(0 : QReg)] = ⟨true, Fp2.zero⟩) ∧
    (wit.s[(2 : SReg)] = ⟨true, elem.c0⟩ ∧ (Fp6.inv elem.c0).isSome ∧ wit.s[(0 : SReg)] = ⟨true, Fp6.zero⟩) ∧
    (wit.t[(2 : TReg)] = ⟨true, elem⟩ ∧ (Fp12.inv elem).isSome ∧ wit.t[(0 : TReg)] = ⟨true, Fp12.zero⟩) := by
  decide +kernel

theorem test_witness_TowerInverseIsInverse :
    Nat.Coprime (((mkFp2 0 1).c0.val ^ 2 + (mkFp2 0 1).c1.val ^ 2) % Config.p) Config.p ∧
    Nat.Coprime (((mkFp2 1 2).c0.val ^ 2 + (mkFp2 1 2).c1.val ^ 2) % Config.p) Config.p ∧
    (fun d : Fp2 => Nat.Coprime ((d.c0.val ^ 2 + d.c1.val ^ 2) % Config.p) Config.p) (Fp6.norm elem.c0) ∧
    (fun d : Fp2 => Nat.Coprime ((d.c0.val ^ 2 + d.c1.val ^ 2) % Config.p) Config.p)
      (Fp6.norm (Fp12.norm elem)) := by decide +kernel

theorem test_witness_FieldTests :
    (wit.f[(0 : FReg)] = ⟨true, Fp.ofNat 0⟩ ∧ wit.f[(1 : FReg)] = ⟨true, Fp.ofNat 1⟩) ∧
    (wit.q[(0 : QReg)] = ⟨true, Fp2.zero⟩ ∧ wit.q[(1 : QReg)] = ⟨true, Fp2.one⟩) ∧
    (wit.s[(0 : SReg)] = ⟨true, Fp6.zero⟩ ∧ wit.s[(1 : SReg)] = ⟨true, Fp6.one⟩) ∧
    (wit.t[(0 : TReg)] = ⟨true, Fp12.zero⟩ ∧ wit.t[(1 : TReg)] = ⟨true, Fp12.one⟩) := by decide +kernel

theorem test_witness_CyclotomicResults :
    (wit.t[(3 : TReg)] = ⟨true, member⟩ ∧ member ≠ Fp12.zero ∧ member ≠ Fp12.one ∧
      Fp12.mul (Fp12.powp member 4) member = Fp12.powp member 2 ∧ wit.k[(3 : KReg)] = ⟨true, 2 ^ 384 - 1⟩) ∧
    (wit.t[(2 : TReg)] = ⟨true, elem⟩ ∧ Fp12.mul (Fp12.powp elem 4) elem ≠ Fp12.powp elem 2 ∧
      wit.k[(2 : KReg)] = ⟨true, 2⟩ ∧ 2 ≤ (2 : BitVec 384).toNat) ∧
    wit.t[(0 : TReg)] = ⟨true, Fp12.zero⟩ ∧
    (wit.k[(0 : KReg)] = ⟨true, 0⟩ ∧ wit.k[(1 : KReg)] = ⟨true, 1⟩) := by decide +kernel

theorem test_witness_G1Results :
    wit.g[(1 : GReg)] = ⟨true, pointO3⟩ ∧ pointO3.z.val ≠ 0 ∧ wit.g[(2 : GReg)] = ⟨true, off1⟩ ∧
    wit.g[(0 : GReg)] = ⟨true, Proj.zero curveFp⟩ ∧ (Proj.zero curveFp).z.val = 0 ∧
    wit.k[(3 : KReg)] = ⟨true, 2 ^ 384 - 1⟩ ∧ wit.f[(0 : FReg)] = ⟨true, Fp.ofNat 0⟩ ∧
    wit.f[(1 : FReg)] = ⟨true, Fp.ofNat 1⟩ ∧ wit.f[(2 : FReg)] = ⟨true, Fp.ofNat 2⟩ := by decide +kernel

theorem test_witness_G2Results :
    wit.h[(2 : HReg)] = ⟨true, off2⟩ ∧ off2.z ≠ Fp2.zero ∧ (Fp2.inv off2.z).isSome ∧
    wit.h[(0 : HReg)] = ⟨true, Proj.zero curveFp2⟩ ∧ (Proj.zero curveFp2).z = Fp2.zero ∧
    wit.k[(3 : KReg)] = ⟨true, 2 ^ 384 - 1⟩ ∧ wit.q[(0 : QReg)] = ⟨true, Fp2.zero⟩ ∧
    wit.q[(1 : QReg)] = ⟨true, Fp2.one⟩ ∧ wit.q[(2 : QReg)] = ⟨true, mkFp2 1 2⟩ := by decide +kernel

theorem test_witness_PointTests :
    wit.g[(1 : GReg)] = ⟨true, pointO3⟩ ∧ wit.g[(2 : GReg)] = ⟨true, off1⟩ ∧
    wit.h[(1 : HReg)] = ⟨true, pointH⟩ ∧ wit.h[(2 : HReg)] = ⟨true, off2⟩ := by decide +kernel

theorem test_witness_PairingResults :
    (wit.g[(1 : GReg)] = ⟨true, pointO3⟩ ∧ wit.h[(1 : HReg)] = ⟨true, pointH⟩ ∧ pointO3.z.val ≠ 0 ∧
      pointH.z ≠ Fp2.zero ∧ Proj.isValid curveFp pointO3 = true ∧ Proj.isValid curveFp2 pointH = true) ∧
    (let P := g1 0 4 2
     P.z.val ≠ 0 ∧ P.x = Fp.mul (Fp.ofNat 0) P.z ∧ P.y = Fp.mul (Fp.ofNat 2) P.z) ∧
    (let Q := g2 2 4 6 8 2 0
     Q.z ≠ Fp2.zero ∧ Q.x = Fp2.mul (mkFp2 1 2) Q.z ∧ Q.y = Fp2.mul (mkFp2 3 4) Q.z) ∧
    (wit.t[(2 : TReg)] = ⟨true, elem⟩ ∧ elem ≠ Fp12.zero) := by decide +kernel

theorem test_witness_PairingFaults :
    (wit.g[(0 : GReg)] = ⟨true, Proj.zero curveFp⟩ ∧ (Proj.zero curveFp).z.val = 0) ∧
    (wit.g[(2 : GReg)] = ⟨true, off1⟩ ∧ off1.z.val ≠ 0 ∧ Proj.isValid curveFp off1 = false) ∧
    (wit.h[(0 : HReg)] = ⟨true, Proj.zero curveFp2⟩ ∧ (Proj.zero curveFp2).z = Fp2.zero) ∧
    (wit.h[(2 : HReg)] = ⟨true, off2⟩ ∧ off2.z ≠ Fp2.zero ∧ Proj.isValid curveFp2 off2 = false) ∧
    (wit.g[(1 : GReg)] = ⟨true, pointO3⟩ ∧ pointO3.z.val ≠ 0 ∧ Proj.isValid curveFp pointO3 = true) ∧
    wit.t[(0 : TReg)] = ⟨true, Fp12.zero⟩ := by decide +kernel

/-- The last 48 bytes of DMEM, holding `p - 1`, and holding `p`. -/
theorem test_witness_IntegerAndFpLoads :
    (let s := filled 65488 [Config.p - 1]
     s.ea 1 (65440 : BitVec 16) + 48 ≤ s.sizes.dmemBytes ∧ s.group (s.ea 1 (65440 : BitVec 16)) 0 < Config.p) ∧
    (let s := filled 65488 [Config.p]
     s.ea 0 (65488 : BitVec 16) + 48 ≤ s.sizes.dmemBytes ∧
       Config.p ≤ s.group (s.ea 0 (65488 : BitVec 16)) 0) := by decide +kernel

/-- Reading a group back from stored bytes. -/
theorem group_storeDmem (s : State) (a j : Nat) (bytes : List (BitVec 8)) (h : 48 * j + 48 ≤ bytes.length) :
    (s.storeDmem a bytes).group a j = fromBe ((bytes.drop (48 * j)).take 48) := by
  unfold State.group
  congr 1
  apply List.ext_getElem
  · simp; omega
  · intro i h₁ h₂
    have h₃ : i < 48 := by simpa using h₁
    simp only [List.getElem_map, List.getElem_range, State.dmemByte_storeDmem, List.getElem_take, List.getElem_drop]
    rw [if_pos (by omega), show a + 48 * j + i - a = 48 * j + i by omega, List.getElem?_eq_getElem (by omega)]
    rfl

/-- For each width: every group `p - 1`; then `p` in the last group and nowhere else. The accesses end at the end of
DMEM. -/
theorem test_witness_TowerLoads :
    (∀ n ∈ [2, 6, 12], 65536 - 48 * n + 48 * n ≤ (filled (65536 - 48 * n) (List.replicate n (Config.p - 1))).sizes.dmemBytes ∧
      ∀ j < n, (filled (65536 - 48 * n) (List.replicate n (Config.p - 1))).group (65536 - 48 * n) j < Config.p) ∧
    (∀ n ∈ [1, 5, 11],
      Config.p ≤ (filled 0 (List.replicate n (Config.p - 1) ++ [Config.p])).group 0 n ∧
      ∀ j < n, (filled 0 (List.replicate n (Config.p - 1) ++ [Config.p])).group 0 j < Config.p) ∧
    (wit.ea 0 (65440 : BitVec 16) = 65536 - 48 * 2 ∧ wit.ea 0 (65248 : BitVec 16) = 65536 - 48 * 6 ∧
      wit.ea 0 (64960 : BitVec 16) = 65536 - 48 * 12) := by
  refine ⟨fun n hn => ⟨?_, fun j hj => ?_⟩, fun n hn => ⟨?_, fun j hj => ?_⟩, by decide +kernel⟩
  · revert n; decide
  · rw [filled, group_storeDmem]
    · revert j; revert n; decide +kernel
    · revert j; revert n; decide +kernel
  · rw [filled, group_storeDmem]
    · revert n; decide +kernel
    · revert n; decide +kernel
  · rw [filled, group_storeDmem]
    · revert j; revert n; decide +kernel
    · revert j; revert n; decide +kernel

theorem test_witness_Stores :
    (wit.k[(3 : KReg)] = ⟨true, 2 ^ 384 - 1⟩ ∧ wit.ea 1 (65440 : BitVec 16) + 48 ≤ wit.sizes.dmemBytes) ∧
    wit.f[(3 : FReg)] = ⟨true, Fp.ofNat (Config.p - 1)⟩ ∧
    (wit.q[(2 : QReg)] = ⟨true, mkFp2 1 2⟩ ∧ wit.ea 0 (65440 : BitVec 16) + 96 ≤ wit.sizes.dmemBytes) ∧
    (wit.s[(2 : SReg)] = ⟨true, elem.c0⟩ ∧ wit.ea 0 (65248 : BitVec 16) + 288 ≤ wit.sizes.dmemBytes) ∧
    (wit.t[(2 : TReg)] = ⟨true, elem⟩ ∧ wit.ea 0 (64960 : BitVec 16) + 576 ≤ wit.sizes.dmemBytes) ∧
    wit.g[(1 : GReg)] = ⟨true, pointO3⟩ ∧ wit.h[(1 : HReg)] = ⟨true, pointH⟩ := by decide +kernel

/-- Lengths 48 (`a1`) and 96 (`a2`), the other lengths, the last place in range and the first beyond it. -/
theorem test_witness_PointDecodes :
    ((wit.readA 1).toNat = 48 ∧ (wit.readA 2).toNat ≠ 48 ∧ (wit.readA 0).toNat ≠ 48) ∧
    ((wit.readA 2).toNat = 96 ∧ (wit.readA 1).toNat ≠ 96) ∧
    wit.sizes.dmemBytes < wit.ea 3 (1 : BitVec 12) + 48 ∧ wit.sizes.dmemBytes < wit.ea 3 (1 : BitVec 12) + 96 ∧
    (let s := wit.storeDmem 0 (beBytes 48 (0xC0 * 256 ^ 47))
     s.ea 0 (0 : BitVec 12) + 48 ≤ s.sizes.dmemBytes ∧
       Codec.decodeG1 ((List.range 48).map fun i => s.dmemByte (s.ea 0 (0 : BitVec 12) + i)) =
         .ok (Proj.zero curveFp)) ∧
    (let s := wit.storeDmem 0 (beBytes 48 (0x80 * 256 ^ 47))
     Codec.decodeG1 ((List.range 48).map fun i => s.dmemByte (s.ea 0 (0 : BitVec 12) + i)) =
       .error ⟨.decXrange, 0⟩) ∧
    (let s := wit.storeDmem 0 (beBytes 96 (0x80 * 256 ^ 95 + 1))
     s.ea 0 (0 : BitVec 12) + 96 ≤ s.sizes.dmemBytes ∧
       Codec.decodeG2 ((List.range 96).map fun i => s.dmemByte (s.ea 0 (0 : BitVec 12) + i)) = .ok pointH) ∧
    (let s := wit.storeDmem 0 (beBytes 96 (0x80 * 256 ^ 95 + 2))
     Codec.decodeG2 ((List.range 96).map fun i => s.dmemByte (s.ea 0 (0 : BitVec 12) + i)) =
       .error ⟨.decNotOnCurve, 0⟩) := by decide +kernel

/-- One buffer for each clause: no compression flag; the identity; the identity with a stray bit; `x` zero; `x = p`;
`x = 1`, which has no `y`; `x = 4`, which has one. For G2 the same, with `p` in either half, and `x = (0, 2)`, which
has no `y`, and `x = (0, 1)`, which has one. -/
theorem test_witness_DecodeHeaderAndRange :
    (let b := beBytes 48 0; b.length = 48 ∧ (b.headD 0).getLsbD 7 = false) ∧
    (let b := beBytes 48 (0xC0 * 256 ^ 47)
     b.length = 48 ∧ (b.headD 0).getLsbD 7 = true ∧ (b.headD 0).getLsbD 6 = true ∧ fromBe b = 0xC0 * 256 ^ 47) ∧
    (let b := beBytes 48 (0xC0 * 256 ^ 47 + 1)
     (b.headD 0).getLsbD 7 = true ∧ (b.headD 0).getLsbD 6 = true ∧ fromBe b ≠ 0xC0 * 256 ^ 47) ∧
    (let b := beBytes 48 (0x80 * 256 ^ 47)
     (b.headD 0).getLsbD 7 = true ∧ (b.headD 0).getLsbD 6 = false ∧ fromBe b % (32 * 256 ^ 47) = 0) ∧
    (let b := beBytes 48 (0x80 * 256 ^ 47 + Config.p)
     (b.headD 0).getLsbD 7 = true ∧ (b.headD 0).getLsbD 6 = false ∧ Config.p ≤ fromBe b % (32 * 256 ^ 47)) ∧
    (let b := beBytes 48 (0xA0 * 256 ^ 47 + 1)
     (b.headD 0).getLsbD 7 = true ∧ (b.headD 0).getLsbD 6 = false ∧
       fromBe b % (32 * 256 ^ 47) = (Fp.ofNat 1).val ∧ (Fp.ofNat 1).val ≠ 0 ∧
       Fp.sqrt (Fp.ofNat ((Fp.ofNat 1).val ^ 3 + 4)) = none) ∧
    (let b := beBytes 48 (0x80 * 256 ^ 47 + 4)
     fromBe b % (32 * 256 ^ 47) = (Fp.ofNat 4).val ∧ (Fp.ofNat 4).val ≠ 0 ∧
       (Fp.sqrt (Fp.ofNat ((Fp.ofNat 4).val ^ 3 + 4))).isSome) ∧
    (let b := beBytes 96 0; b.length = 96 ∧ (b.headD 0).getLsbD 7 = false) ∧
    (let b := beBytes 96 (0xC0 * 256 ^ 95)
     b.length = 96 ∧ (b.headD 0).getLsbD 7 = true ∧ (b.headD 0).getLsbD 6 = true ∧ fromBe b = 0xC0 * 256 ^ 95) ∧
    (let b := beBytes 96 (0xC0 * 256 ^ 95 + 1)
     (b.headD 0).getLsbD 7 = true ∧ (b.headD 0).getLsbD 6 = true ∧ fromBe b ≠ 0xC0 * 256 ^ 95) ∧
    (let b := beBytes 96 (0x80 * 256 ^ 95)
     (b.headD 0).getLsbD 7 = true ∧ (b.headD 0).getLsbD 6 = false ∧
       fromBe b / 256 ^ 48 % (32 * 256 ^ 47) = 0 ∧ fromBe b % 256 ^ 48 = 0) ∧
    (let b := beBytes 96 (0x80 * 256 ^ 95 + Config.p * 256 ^ 48)
     (b.headD 0).getLsbD 7 = true ∧ (b.headD 0).getLsbD 6 = false ∧
       Config.p ≤ fromBe b / 256 ^ 48 % (32 * 256 ^ 47)) ∧
    (let b := beBytes 96 (0x80 * 256 ^ 95 + Config.p)
     (b.headD 0).getLsbD 7 = true ∧ (b.headD 0).getLsbD 6 = false ∧ Config.p ≤ fromBe b % 256 ^ 48) ∧
    (let b := beBytes 96 (0x80 * 256 ^ 95 + 2)
     let x := mkFp2 0 2
     (b.headD 0).getLsbD 7 = true ∧ (b.headD 0).getLsbD 6 = false ∧
       fromBe b / 256 ^ 48 % (32 * 256 ^ 47) = x.c0.val ∧ fromBe b % 256 ^ 48 = x.c1.val ∧ x ≠ Fp2.zero ∧
       Fp2.sqrt (Fp2.add (Fp2.mul (Fp2.mul x x) x) ⟨Fp.ofNat 4, Fp.ofNat 4⟩) = none) ∧
    (let b := beBytes 96 (0xA0 * 256 ^ 95 + 1)
     let x := mkFp2 0 1
     (b.headD 0).getLsbD 7 = true ∧ (b.headD 0).getLsbD 6 = false ∧
       fromBe b / 256 ^ 48 % (32 * 256 ^ 47) = x.c0.val ∧ fromBe b % 256 ^ 48 = x.c1.val ∧ x ≠ Fp2.zero ∧
       (Fp2.sqrt (Fp2.add (Fp2.mul (Fp2.mul x x) x) ⟨Fp.ofNat 4, Fp.ofNat 4⟩)).isSome) := by decide +kernel

/-- `z` zero; `z` other than 1 with `y` not big and with `y` big, in G2 by `c1` and by `c0`. -/
theorem test_witness_EncodedPoints :
    (Proj.zero curveFp).z.val = 0 ∧ (Proj.zero curveFp2).z = Fp2.zero ∧
    (let P := g1 0 4 2
     P.z.val ≠ 0 ∧ P.x = Fp.mul (Fp.ofNat 0) P.z ∧ P.y = Fp.mul (Fp.ofNat 2) P.z) ∧
    (let P := g1 6 (Config.p - 2) 2
     P.z.val ≠ 0 ∧ P.x = Fp.mul (Fp.ofNat 3) P.z ∧ P.y = Fp.mul (Fp.ofNat (Config.p - 1)) P.z) ∧
    (let Q := g2 2 4 6 8 2 0
     Q.z ≠ Fp2.zero ∧ Q.x = Fp2.mul (mkFp2 1 2) Q.z ∧ Q.y = Fp2.mul (mkFp2 3 4) Q.z) ∧
    (let Q := g2 2 4 (Config.p - 2) 0 2 0
     Q.z ≠ Fp2.zero ∧ Q.x = Fp2.mul (mkFp2 1 2) Q.z ∧ Q.y = Fp2.mul (mkFp2 (Config.p - 1) 0) Q.z) := by
  decide +kernel

theorem test_witness_DecodedPointsAreOnTheCurve :
    (∃ P, Codec.decodeG1 (beBytes 48 (0xB7F1D3A7 * 256 ^ 44 + genG.x.val % 256 ^ 44)) = .ok P ∧
      Codec.infinite ((beBytes 48 (0xB7F1D3A7 * 256 ^ 44 + genG.x.val % 256 ^ 44)).headD 0) = false ∧ P.y.val ≠ 0) ∧
    (Codec.decodeG2 (beBytes 96 (0x80 * 256 ^ 95 + 1)) = .ok pointH ∧
      Codec.infinite ((beBytes 96 (0x80 * 256 ^ 95 + 1)).headD 0) = false ∧ pointH.y ≠ Fp2.zero) := by
  exact ⟨⟨⟨genG.x, Fp.neg genG.y, Fp.one⟩, by decide +kernel⟩, by decide +kernel⟩

theorem test_witness_EncodeOfDecodedG1 :
    (beBytes 48 (0x97F1D3A7 * 256 ^ 44 + genG.x.val % 256 ^ 44)).length = 48 ∧
    Codec.decodeG1 (beBytes 48 (0x97F1D3A7 * 256 ^ 44 + genG.x.val % 256 ^ 44)) = .ok genG ∧
    genG.y.val ≠ 0 := by decide +kernel

/-- The operands of the example of spec/95_test_vectors.md section 5, in Fp and embedded in Fp2. -/
theorem test_witness_AdditionClosedForm :
    (let P : G1Point := ⟨Fp.ofNat 1, Fp.ofNat 2, Fp.ofNat 3⟩
     let Q : G1Point := ⟨Fp.ofNat 4, Fp.ofNat 5, Fp.ofNat 6⟩
     Fp.ofNat 4 = Fp.mul P.x Q.x ∧ Fp.ofNat 10 = Fp.mul P.y Q.y ∧ Fp.ofNat 18 = Fp.mul P.z Q.z ∧
     Fp.ofNat 13 = Fp.add (Fp.mul P.x Q.y) (Fp.mul Q.x P.y) ∧
     Fp.ofNat 18 = Fp.add (Fp.mul P.x Q.z) (Fp.mul Q.x P.z) ∧
     Fp.ofNat 27 = Fp.add (Fp.mul P.y Q.z) (Fp.mul Q.y P.z) ∧ Fp.ofNat 216 = Fp.scale (Fp.ofNat 18) 12) ∧
    (let P : G2Point := ⟨mkFp2 1 0, mkFp2 2 0, mkFp2 3 0⟩
     let Q : G2Point := ⟨mkFp2 4 0, mkFp2 5 0, mkFp2 6 0⟩
     mkFp2 4 0 = Fp2.mul P.x Q.x ∧ mkFp2 10 0 = Fp2.mul P.y Q.y ∧ mkFp2 18 0 = Fp2.mul P.z Q.z ∧
     mkFp2 13 0 = Fp2.add (Fp2.mul P.x Q.y) (Fp2.mul Q.x P.y) ∧
     mkFp2 18 0 = Fp2.add (Fp2.mul P.x Q.z) (Fp2.mul Q.x P.z) ∧
     mkFp2 27 0 = Fp2.add (Fp2.mul P.y Q.z) (Fp2.mul Q.y P.z) ∧
     mkFp2 216 216 = Fp2.mul ⟨Fp.ofNat 12, Fp.ofNat 12⟩ (mkFp2 18 0)) := by decide +kernel

theorem test_witness_ScaleRecursion :
    1 ≤ 1 ∧ pointO3 = Proj.scale curveFp pointO3 1 ∧ pointH = Proj.scale curveFp2 pointH 1 := by decide +kernel

/-- Exponents 0 and 11, with the coefficients the powers of `ξ` are. -/
theorem test_witness_FrobeniusMap :
    (0 ≤ 11 ∧ frobG6_1 0 = Fp2.pow ⟨Fp.ofNat 1, Fp.ofNat 1⟩ ((Config.p ^ (0 % 6) - 1) / 3) ∧
      frobG6_2 0 = Fp2.pow ⟨Fp.ofNat 1, Fp.ofNat 1⟩ (2 * (Config.p ^ (0 % 6) - 1) / 3) ∧
      frobG12 0 = Fp2.pow ⟨Fp.ofNat 1, Fp.ofNat 1⟩ ((Config.p ^ 0 - 1) / 6)) ∧
    (11 ≤ 11 ∧ frobG6_1 5 = Fp2.pow ⟨Fp.ofNat 1, Fp.ofNat 1⟩ ((Config.p ^ (11 % 6) - 1) / 3) ∧
      frobG6_2 5 = Fp2.pow ⟨Fp.ofNat 1, Fp.ofNat 1⟩ (2 * (Config.p ^ (11 % 6) - 1) / 3) ∧
      frobG12 11 = Fp2.pow ⟨Fp.ofNat 1, Fp.ofNat 1⟩ ((Config.p ^ 11 - 1) / 6)) := by decide +kernel

theorem test_witness_BigEndianRoundTrip : 65535 < 256 ^ 2 ∧ 0 < 256 ^ 0 ∧ 47 < 48 := by decide

theorem test_witness_LoadAfterStore :
    (wit.k[(3 : KReg)] = ⟨true, 2 ^ 384 - 1⟩ ∧ wit.ea 1 (65440 : BitVec 16) + 48 ≤ wit.sizes.dmemBytes) ∧
    (wit.f[(3 : FReg)] = ⟨true, Fp.ofNat (Config.p - 1)⟩ ∧
      wit.ea 0 (65488 : BitVec 16) + 48 ≤ wit.sizes.dmemBytes) ∧
    (wit.q[(2 : QReg)] = ⟨true, mkFp2 1 2⟩ ∧ wit.ea 0 (65440 : BitVec 16) + 96 ≤ wit.sizes.dmemBytes) ∧
    (wit.s[(2 : SReg)] = ⟨true, elem.c0⟩ ∧ wit.ea 0 (65248 : BitVec 16) + 288 ≤ wit.sizes.dmemBytes) ∧
    (wit.t[(2 : TReg)] = ⟨true, elem⟩ ∧ wit.ea 0 (64960 : BitVec 16) + 576 ≤ wit.sizes.dmemBytes) := by
  decide +kernel

theorem test_witness_UninitializedSourceFaults :
    valueSources (.fpScale 0 3 7) = [(.f, 3)] ++ (.k, 7) :: [] ∧ (∀ x ∈ [(ValueFile.f, 3)], wit.isValid x = true) ∧
    wit.isValid (.k, 7) = false := by decide +kernel

/-- One byte too far for each width. -/
theorem test_witness_AccessBeyondDmemFaults :
    (wit.sizes.dmemBytes < wit.ea 0 (65489 : BitVec 16) + 48 ∧ wit.k[(3 : KReg)].valid = true ∧
      wit.f[(3 : FReg)].valid = true ∧ wit.g[(1 : GReg)].valid = true) ∧
    (wit.sizes.dmemBytes < wit.ea 0 (65441 : BitVec 16) + 96 ∧ wit.q[(2 : QReg)].valid = true ∧
      wit.h[(1 : HReg)].valid = true) ∧
    (wit.sizes.dmemBytes < wit.ea 0 (65249 : BitVec 16) + 288 ∧ wit.s[(2 : SReg)].valid = true) ∧
    (wit.sizes.dmemBytes < wit.ea 0 (64961 : BitVec 16) + 576 ∧ wit.t[(2 : TReg)].valid = true) := by
  decide +kernel

theorem test_witness_FaultsArePrecise :
    wit.run ≠ .faulted ∧ exec (.fpInv 1 0) wit = .next (wit.faultedWith 6 0) ∧
    (wit.faultedWith 6 0).run = .faulted := by
  exact ⟨by decide, next_of_after (by decide +kernel), by decide⟩

theorem test_witness_FaultsRepeat :
    wit.run = .running ∧ exec (.trap 0xFFFF) wit = .next (wit.faultedWith 14 0xFFFF) ∧
    (wit.faultedWith 14 0xFFFF).run = .faulted := by
  exact ⟨by decide, next_of_after (by decide +kernel), by decide⟩

theorem test_witness_ValidBitsOnlyRise :
    exec (.fpMov 5 3) wit = .next (wit.setF 5 (Fp.ofNat (Config.p - 1))).advance ∧ wit.isValid (.f, 3) = true ∧
    wit.run ≠ .faulted ∧ (wit.setF 5 (Fp.ofNat (Config.p - 1))).advance.run ≠ .faulted ∧
    (.f, 5) ∈ valueDestinations (.fpMov 5 3) := by
  exact ⟨next_of_after (by decide +kernel), by decide +kernel⟩

theorem test_witness_OnlyDestinationsChange :
    exec (.fpMov 5 3) wit = .next (wit.setF 5 (Fp.ofNat (Config.p - 1))).advance ∧
    (ValueFile.k, 0) ∉ valueDestinations (.fpMov 5 3) ∧ (ValueFile.f, 4) ∉ valueDestinations (.fpMov 5 3) ∧
    (ValueFile.q, 5) ∉ valueDestinations (.fpMov 5 3) ∧ (ValueFile.s, 5) ∉ valueDestinations (.fpMov 5 3) ∧
    (ValueFile.t, 5) ∉ valueDestinations (.fpMov 5 3) ∧ (ValueFile.g, 5) ∉ valueDestinations (.fpMov 5 3) ∧
    (ValueFile.h, 5) ∉ valueDestinations (.fpMov 5 3) := by
  exact ⟨next_of_after (by decide +kernel), by decide⟩

theorem test_witness_TestFlagAndAddressFrame :
    exec (.aLi 1 7) wit = .next (wit.setA 1 7).advance ∧ writesTest (.aLi 1 7) = false ∧
    addressDestination (.aLi 1 7) ≠ some 2 := by
  exact ⟨next_of_after (by decide +kernel), by decide⟩

/-- A store at 48: byte 47 is below it and byte 96 above it. -/
theorem test_witness_OnlyStoredBytesChange :
    exec (.kSt 0 1 0) wit = .next (wit.storeDmem 48 (List.replicate 48 0)).advance ∧
    (∀ ea n, storeRange wit (.kSt 0 1 0) = some (ea, n) → 47 < ea ∨ ea + n ≤ 47) ∧
    (∀ ea n, storeRange wit (.kSt 0 1 0) = some (ea, n) → 96 < ea ∨ ea + n ≤ 96) := by
  refine ⟨next_of_after (by decide +kernel), ?_, ?_⟩ <;>
  · intro ea n h
    have e : storeRange wit (.kSt 0 1 0) = some (48, 48) := by decide +kernel
    rw [e] at h
    injection h with h
    injection h with h₁ h₂
    omega

theorem test_witness_ProgramsCannotReachTheHostSide :
    exec .halt wit = .next { wit with run := .halted, pc := 1 } ∧
    { wit with run := .halted, pc := 1 }.run ≠ .faulted := by
  exact ⟨next_of_after (by decide +kernel), by decide⟩

theorem test_witness_PcGoesOnOrStays :
    isJump (.fpInv 1 0) = false ∧ exec (.fpInv 1 0) wit = .next (wit.faultedWith 6 0) ∧
    isJump .nop = false ∧ exec .nop wit = .next { wit with pc := 1 } := by
  exact ⟨rfl, next_of_after (by decide +kernel), rfl, next_of_after (by decide +kernel)⟩

theorem test_witness_OnlyBranchesDependOnT :
    (∀ off, Instr.fpEq 0 1 ≠ .bt off) ∧ (∀ off, Instr.fpEq 0 1 ≠ .bf off) ∧
    exec (.fpEq 0 1) wit = .next (wit.setTest false).advance ∧
    exec (.fpEq 0 1) { wit with tflag := true } = .next (wit.setTest false).advance := by
  exact ⟨(fun _ => nofun), (fun _ => nofun), next_of_after (by decide +kernel), next_of_after (by decide +kernel)⟩

/-- `wit` has the invariant, and so has it with a host write pending. -/
theorem test_witness_StepKeepsInvariant :
    (∃ t, { wit with imem := [(0, 0x01000000)] }.Inv ∧ step { wit with imem := [(0, 0x01000000)] } = .next t) ∧
    (∃ t, (pending .idle (.writeDmem 0 [1])).Inv ∧ step (pending .idle (.writeDmem 0 [1])) = .next t) := by
  refine ⟨⟨{ wit with imem := [(0, 0x01000000)], pc := 1 }, ?_, next_of_after (by decide +kernel)⟩,
    ⟨{ st with run := .idle, dmem := [(0, 1)] }, ?_, next_of_after (by decide +kernel)⟩⟩
  · exact ⟨by decide +kernel, by decide, by decide, by decide, by decide, by decide, fun _ => by decide, nofun⟩
  · exact ⟨by decide +kernel, by decide, by decide, by decide, by decide, by decide, fun _ => by decide, nofun⟩

theorem test_witness_ResetValues :
    (pending .running .hardReset).host = .hardReset :: [] ∧
    ((pending .running (.writeReg 0x04 2)).host = .writeReg 0x04 2 :: [] ∧
      (2 : BitVec 32).getLsbD 1 = true) := by decide +kernel

/-- Values 0, 1, 4 and 5 of the three command bits, in each run state. -/
theorem test_witness_ControlRegisterWrites :
    ((pending .idle (.writeReg 0x04 1)).host = .writeReg 0x04 1 :: [] ∧ (1 : BitVec 32).getLsbD 1 = false ∧
      (1 : BitVec 32).getLsbD 0 = true ∧ (pending .idle (.writeReg 0x04 1)).run = .idle) ∧
    ((4 : BitVec 32).getLsbD 1 = false ∧ (4 : BitVec 32).getLsbD 0 = false ∧
      (pending .halted (.writeReg 0x04 4)).run = .halted) ∧
    (pending .running (.writeReg 0x04 5)).run = .running ∧
    ((5 : BitVec 32).getLsbD 1 = false ∧ (5 : BitVec 32).getLsbD 2 = true ∧
      (pending .faulted (.writeReg 0x04 5)).run = .faulted) ∧
    (1 : BitVec 32).getLsbD 2 = false := by decide +kernel

theorem test_witness_HostRegisters :
    (pending .halted .turn).run ≠ .running ∧ (pending .running .turn).run = .running ∧
    ((pending .idle .turn).Inv ∧ (pending .idle .turn).run ≠ .faulted) := by
  refine ⟨by decide, by decide, ?_, by decide⟩
  exact ⟨by decide +kernel, by decide, by decide, by decide, by decide, by decide, fun _ => by decide, nofun⟩

/-- The last byte of DMEM and the last word of IMEM; the same writes while running. -/
theorem test_witness_HostWindows :
    ((pending .running (.writeDmem 65535 [1])).host = .writeDmem 65535 [1] :: [] ∧
      (pending .running (.writeDmem 65535 [1])).run = .running) ∧
    ((pending .running (.writeImem 4095 1)).host = .writeImem 4095 1 :: [] ∧
      (pending .running (.writeImem 4095 1)).run = .running) ∧
    ((pending .idle (.writeDmem 65535 [1])).run ≠ .running ∧
      65535 + [(1 : BitVec 8)].length ≤ (pending .idle (.writeDmem 65535 [1])).sizes.dmemBytes ∧
      65535 < (pending .idle (.writeDmem 65535 [1])).sizes.dmemBytes) ∧
    ((pending .idle (.writeImem 4095 1)).run ≠ .running ∧
      4095 < (pending .idle (.writeImem 4095 1)).sizes.imemWords) := by decide +kernel

end Sys2Proof.Tests
end

section
/-! PROOFS. What an instruction keeps of the state it found, said once for every instruction, and the invariant of
the machine under a step (O54). -/

namespace Sys2Proof.Machine

/-! ### What an instruction that completes keeps -/

/-- What every instruction but `HALT` keeps of `s` when it completes in `t`: the stored `a0`, all that belongs to the
host, and DMEM but for at most one store within its size. The value registers, `T` and `pc` are left open. -/
structure ProgramFrame (s t : State) : Prop where
  a0 : t.a[0] = s.a[0]
  run : t.run = s.run
  faultCause : t.faultCause = s.faultCause
  faultPc : t.faultPc = s.faultPc
  faultInfo : t.faultInfo = s.faultInfo
  haltIe : t.haltIe = s.haltIe
  faultIe : t.faultIe = s.faultIe
  imem : t.imem = s.imem
  sizes : t.sizes = s.sizes
  host : t.host = s.host
  epoch : t.epoch = s.epoch
  dmem : t.dmem = s.dmem ∨
    ∃ ea bytes, ea + bytes.length ≤ s.sizes.dmemBytes ∧ t.dmem = Memory.store s.dmem ea bytes

namespace ProgramFrame

theorem refl (s : State) : ProgramFrame s s :=
  ⟨rfl, rfl, rfl, rfl, rfl, rfl, rfl, rfl, rfl, rfl, rfl, .inl rfl⟩

theorem storeDmem (s : State) (ea : Nat) (bytes : List (BitVec 8)) (hsize : ea + bytes.length ≤ s.sizes.dmemBytes) :
    ProgramFrame s (s.storeDmem ea bytes) :=
  { refl s with dmem := .inr ⟨ea, bytes, hsize, rfl⟩ }

section
variable {s u : State} (frame : ProgramFrame s u)
include frame

theorem setK (i : KReg) (v : BitVec 384) : ProgramFrame s (u.setK i v) := { frame with }
theorem setF (i : FReg) (v : Fp) : ProgramFrame s (u.setF i v) := { frame with }
theorem setQ (i : QReg) (v : Fp2) : ProgramFrame s (u.setQ i v) := { frame with }
theorem setS (i : SReg) (v : Fp6) : ProgramFrame s (u.setS i v) := { frame with }
theorem setT (i : TReg) (v : Fp12) : ProgramFrame s (u.setT i v) := { frame with }
theorem setG (i : GReg) (v : G1Point) : ProgramFrame s (u.setG i v) := { frame with }
theorem setH (i : HReg) (v : G2Point) : ProgramFrame s (u.setH i v) := { frame with }
theorem setTest (b : Bool) : ProgramFrame s (u.setTest b) := { frame with }
theorem setPc (v : BitVec 16) : ProgramFrame s (u.setPc v) := { frame with }
theorem drew : ProgramFrame s u.drew := { frame with }
theorem advance : ProgramFrame s u.advance := frame.setPc _

theorem setA (i : AReg) (v : BitVec 16) : ProgramFrame s (u.setA i v) := by
  by_cases hi : i = 0
  · subst hi; exact frame
  · have stored : (u.setA i v).a[0] = u.a[0] := by
      have hne : i.val ≠ 0 := fun h => hi (Fin.ext h)
      simp [State.setA_a, hi, hne]
    have same : u.setA i v = { u with a := u.a.set i v } := if_neg hi
    rw [same] at stored ⊢
    exact { frame with a0 := stored.trans frame.a0 }

end

end ProgramFrame

/-! ### The ways an instruction ends: a fault, or a state within the frame -/

/-- How an instruction other than `HALT` ends: it faults in the state it found, or completes within the frame. -/
def FaultsOrFramed (s t : State) : Prop := (∃ e, t = s.raise e) ∨ ProgramFrame s t

section
variable {s t : State}

theorem complete_faultsOrFramed {r : Except Trap State} (h : complete s r = .next t)
    (frame : ∀ u, r = .ok u → ProgramFrame s u) : FaultsOrFramed s t := by
  rcases complete_next s t r h with ⟨u, hu, rfl⟩ | ⟨e, -, rfl⟩
  · exact .inr (frame u hu).advance
  · exact .inl ⟨e, rfl⟩

theorem complete_ok_faultsOrFramed {u : State} (h : complete s (.ok u) = .next t) (frame : ProgramFrame s u) :
    FaultsOrFramed s t :=
  complete_faultsOrFramed h fun _ hu => Except.ok.inj hu ▸ frame

theorem compute1_faultsOrFramed {α β : Type} {x : Except Trap α} {f : α → β} {write : β → State}
    (h : compute1 s x f write = .next t) (frame : ∀ v, ProgramFrame s (write v)) : FaultsOrFramed s t := by
  rcases compute1_next s t x f write h with ⟨u, -, rfl⟩ | ⟨e, -, rfl⟩
  · exact .inr (frame _).advance
  · exact .inl ⟨e, rfl⟩

theorem compute2_faultsOrFramed {α β γ : Type} {x : Except Trap α} {y : Except Trap β} {f : α → β → γ}
    {write : γ → State} (h : compute2 s x y f write = .next t) (frame : ∀ v, ProgramFrame s (write v)) :
    FaultsOrFramed s t := by
  rcases compute2_next s t x y f write h with ⟨u, v, -, -, rfl⟩ | ⟨e, -, rfl⟩
  · exact .inr (frame _).advance
  · exact .inl ⟨e, rfl⟩

theorem compute3_faultsOrFramed {α β γ δ : Type} {x : Except Trap α} {y : Except Trap β} {z : Except Trap γ}
    {f : α → β → γ → δ} {write : δ → State} (h : compute3 s x y z f write = .next t)
    (frame : ∀ v, ProgramFrame s (write v)) : FaultsOrFramed s t := by
  rcases compute3_next s t x y z f write h with ⟨u, v, w, -, -, -, rfl⟩ | ⟨e, -, rfl⟩
  · exact .inr (frame _).advance
  · exact .inl ⟨e, rfl⟩

theorem attempt1_faultsOrFramed {α β : Type} {x : Except Trap α} {f : α → Option β} {c : Cause} {write : β → State}
    (h : attempt1 s x f c write = .next t) (frame : ∀ v, ProgramFrame s (write v)) : FaultsOrFramed s t := by
  rcases attempt1_next s t x f c write h with ⟨u, r, -, -, rfl⟩ | ⟨u, -, -, rfl⟩ | ⟨e, -, rfl⟩
  · exact .inr (frame r).advance
  · exact .inl ⟨_, rfl⟩
  · exact .inl ⟨e, rfl⟩

theorem attempt2_faultsOrFramed {α β γ : Type} {x : Except Trap α} {y : Except Trap β} {f : α → β → Option γ}
    {c : Cause} {write : γ → State} (h : attempt2 s x y f c write = .next t)
    (frame : ∀ v, ProgramFrame s (write v)) : FaultsOrFramed s t := by
  rcases attempt2_next s t x y f c write h with ⟨u, v, r, -, -, -, rfl⟩ | ⟨u, v, -, -, -, rfl⟩ | ⟨e, -, rfl⟩
  · exact .inr (frame r).advance
  · exact .inl ⟨_, rfl⟩
  · exact .inl ⟨e, rfl⟩

theorem load_faultsOrFramed {α : Type} {ea n : Nat} {parse : List (BitVec 8) → Except Trap α} {write : α → State}
    (h : load s ea n parse write = .next t) (frame : ∀ v, ProgramFrame s (write v)) : FaultsOrFramed s t := by
  rcases load_next s t ea n parse write h with ⟨bytes, v, -, -, rfl⟩ | ⟨bytes, e, -, -, rfl⟩ | ⟨-, rfl⟩
  · exact .inr (frame v).advance
  · exact .inl ⟨e, rfl⟩
  · exact .inl ⟨_, rfl⟩

theorem store_faultsOrFramed {α : Type} {x : Except Trap α} {ea : Nat} {image : α → List (BitVec 8)}
    (h : store s x ea image = .next t) : FaultsOrFramed s t := by
  rcases store_next s t x ea image h with ⟨v, -, hsize, rfl⟩ | ⟨v, -, -, rfl⟩ | ⟨e, -, rfl⟩
  · exact .inr (ProgramFrame.storeDmem s ea (image v) hsize).advance
  · exact .inl ⟨_, rfl⟩
  · exact .inl ⟨e, rfl⟩

theorem decodePoint_faultsOrFramed {α : Type} {c : AReg} {ea n : Nat} {dec : List (BitVec 8) → Except Trap α}
    {write : α → State} (h : decodePoint s c ea n dec write = .next t) (frame : ∀ v, ProgramFrame s (write v)) :
    FaultsOrFramed s t := by
  rcases decodePoint_next s t c ea n dec write h with ⟨-, h⟩ | ⟨-, rfl⟩
  · exact load_faultsOrFramed h frame
  · exact .inl ⟨_, rfl⟩

theorem branch_faultsOrFramed {taken : Bool} {off : BitVec 16} (h : branch s taken off = .next t) :
    FaultsOrFramed s t := by
  rw [branch_next s t taken off h]
  exact .inr ((ProgramFrame.refl s).setPc _)

/-! Instructions with a write of their own: two registers, a draw outside the cyclotomic subgroup (U1, log 4), and the
checks of R461. -/

theorem execG1Toaff_faultsOrFramed {a : FReg} {b : GReg} {c : FReg} (h : execG1Toaff a b c s = .next t) :
    FaultsOrFramed s t :=
  compute1_faultsOrFramed h fun _ => ((ProgramFrame.refl s).setF _ _).setF _ _

theorem execG2Toaff_faultsOrFramed {a : QReg} {b : HReg} {c : QReg} (h : execG2Toaff a b c s = .next t) :
    FaultsOrFramed s t :=
  compute1_faultsOrFramed h fun _ => ((ProgramFrame.refl s).setQ _ _).setQ _ _

theorem execFp12Cycsqr_faultsOrFramed {a b : TReg} (h : execFp12Cycsqr a b s = .next t) : FaultsOrFramed s t := by
  have set (x : Fp12) := (ProgramFrame.refl s).setT a x
  refine compute1_faultsOrFramed h fun x => ?_
  split_ifs
  · exact set _
  · exact (set _).drew

theorem execFp12Cycpow_faultsOrFramed {a b : TReg} {c : KReg} (h : execFp12Cycpow a b c s = .next t) :
    FaultsOrFramed s t := by
  have set (x : Fp12) := (ProgramFrame.refl s).setT a x
  refine compute2_faultsOrFramed h fun xn => ?_
  split_ifs
  · exact set _
  · exact set _
  · exact set _
  · exact (set _).drew

theorem execMiller_faultsOrFramed {a : TReg} {b : GReg} {c : HReg} (h : execMiller a b c s = .next t) :
    FaultsOrFramed s t := by
  refine complete_faultsOrFramed h fun u hu => ?_
  cases hP : s.readG b with
  | error e => simp [hP, Except.bind] at hu
  | ok P =>
    cases hQ : s.readH c with
    | error e => simp [hP, hQ, Except.bind] at hu
    | ok Q =>
      cases hc : pairingOperands P Q with
      | error e => simp [hP, hQ, hc, Except.bind] at hu
      | ok _ =>
        simp only [hP, hQ, hc, Except.bind, Except.ok.injEq] at hu
        exact hu ▸ (ProgramFrame.refl s).setT _ _

end

/-! ### Every instruction -/

/-- `HALT` always completes, and changes `STATE` and `pc` only. -/
theorem exec_halt_next {s t : State} (h : exec .halt s = .next t) : t = (s.setRun .halted).advance :=
  (Host.Outcome.next.inj h).symm

/-- Every instruction but `HALT` faults in the state it found, or completes within the frame: one arm for each way of
ending and each register file written. -/
theorem exec_faultsOrFramed {i : Instr} {s t : State} (notHalt : i ≠ .halt) (h : exec i s = .next t) :
    FaultsOrFramed s t := by
  have base := ProgramFrame.refl s
  cases i with
  | halt => exact absurd rfl notHalt
  | nop => exact complete_ok_faultsOrFramed h base
  | trap => exact .inl ⟨_, (Host.Outcome.next.inj h).symm⟩
  | j | bt | bf | banz => exact branch_faultsOrFramed h
  | jal => exact .inr (Host.Outcome.next.inj h ▸ (base.setPc _).setA _ _)
  | jr => exact .inr (Host.Outcome.next.inj h ▸ base.setPc _)
  | aLi | aAddi => exact complete_ok_faultsOrFramed h (base.setA _ _)
  -- stores and encodes
  | kSt | fpSt | fp2St | fp6St | fp12St | g1Enc | g2Enc => exact store_faultsOrFramed h
  -- loads and decodes
  | kLd => exact load_faultsOrFramed h (base.setK _)
  | fpLd => exact load_faultsOrFramed h (base.setF _)
  | fp2Ld => exact load_faultsOrFramed h (base.setQ _)
  | fp6Ld => exact load_faultsOrFramed h (base.setS _)
  | fp12Ld => exact load_faultsOrFramed h (base.setT _)
  | g1Dec => exact decodePoint_faultsOrFramed h (base.setG _)
  | g2Dec => exact decodePoint_faultsOrFramed h (base.setH _)
  -- constants
  | kLi => exact complete_ok_faultsOrFramed h (base.setK _ _)
  | fpLi => exact complete_ok_faultsOrFramed h (base.setF _ _)
  | fp2Li => exact complete_ok_faultsOrFramed h (base.setQ _ _)
  | fp6Li => exact complete_ok_faultsOrFramed h (base.setS _ _)
  | fp12Li => exact complete_ok_faultsOrFramed h (base.setT _ _)
  | g1Zero => exact complete_ok_faultsOrFramed h (base.setG _ _)
  | g2Zero => exact complete_ok_faultsOrFramed h (base.setH _ _)
  -- one source
  | kMov | kModr => exact compute1_faultsOrFramed h (base.setK _)
  | fpMov | fpNeg | fpSqr | fpCube | fpHalve | fp2Get | g1Get => exact compute1_faultsOrFramed h (base.setF _)
  | fp2Mov | fp2Neg | fp2Sqr | fp2Cube | fp2Halve | fp6Get | g2Get => exact compute1_faultsOrFramed h (base.setQ _)
  | fp6Mov | fp6Neg | fp6Sqr | fp6Cube | fp6Halve | fp12Get => exact compute1_faultsOrFramed h (base.setS _)
  | fp12Mov | fp12Neg | fp12Sqr | fp12Cube | fp12Halve | fp12Powp | fp12Conj =>
    exact compute1_faultsOrFramed h (base.setT _)
  | g1Mov | g1Dbl | g1Neg | g1Clrcof => exact compute1_faultsOrFramed h (base.setG _)
  | g2Mov | g2Dbl | g2Neg | g2Clrcof | g2Psi | g2Psi2 => exact compute1_faultsOrFramed h (base.setH _)
  | g1Toaff => exact execG1Toaff_faultsOrFramed h
  | g2Toaff => exact execG2Toaff_faultsOrFramed h
  | fpIszero | fpIsone | fp2Iszero | fp2Isone | fp6Iszero | fp6Isone | fp12Iszero | fp12Isone | g1Iszero | g1Isvalid
  | g2Iszero | g2Isvalid => exact compute1_faultsOrFramed h base.setTest
  -- two sources
  | fpAdd | fpSub | fpMul | fpScale | fpPow => exact compute2_faultsOrFramed h (base.setF _)
  | fp2Add | fp2Sub | fp2Mul | fp2Scale | fp2Pow | fp2Pack => exact compute2_faultsOrFramed h (base.setQ _)
  | fp6Add | fp6Sub | fp6Mul | fp6Scale | fp6Pow => exact compute2_faultsOrFramed h (base.setS _)
  | fp12Add | fp12Sub | fp12Mul | fp12Scale | fp12Pow | fp12Pack => exact compute2_faultsOrFramed h (base.setT _)
  | g1Add | g1Scale | g1Fromaff => exact compute2_faultsOrFramed h (base.setG _)
  | g2Add | g2Scale | g2Fromaff => exact compute2_faultsOrFramed h (base.setH _)
  | fpEq | fp2Eq | fp6Eq | fp12Eq | g1Eq | g2Eq => exact compute2_faultsOrFramed h base.setTest
  -- three sources
  | fp6Pack => exact compute3_faultsOrFramed h (base.setS _)
  | g1Pack => exact compute3_faultsOrFramed h (base.setG _)
  | g2Pack => exact compute3_faultsOrFramed h (base.setH _)
  -- operations without a value for some operands
  | fpInv | fpSqrt => exact attempt1_faultsOrFramed h (base.setF _)
  | fp2Inv | fp2Sqrt => exact attempt1_faultsOrFramed h (base.setQ _)
  | fp6Inv => exact attempt1_faultsOrFramed h (base.setS _)
  | fp12Inv | finalExp => exact attempt1_faultsOrFramed h (base.setT _)
  | finalVerify => exact attempt1_faultsOrFramed h base.setTest
  | fpDiv => exact attempt2_faultsOrFramed h (base.setF _)
  | fp2Div => exact attempt2_faultsOrFramed h (base.setQ _)
  | fp6Div => exact attempt2_faultsOrFramed h (base.setS _)
  | fp12Div => exact attempt2_faultsOrFramed h (base.setT _)
  | fp12Cycsqr => exact execFp12Cycsqr_faultsOrFramed h
  | fp12Cycpow => exact execFp12Cycpow_faultsOrFramed h
  | miller => exact execMiller_faultsOrFramed h

/-! ### Operations that keep the invariant -/

/-- The cause codes are 1 to 14 (R522). -/
theorem Cause.code_range (c : Cause) : 1 ≤ c.code.toNat ∧ c.code.toNat ≤ 14 := by
  cases c <;> decide

/-- A store within the size of a memory lists no cell beyond it. -/
theorem Memory.store_within {w : Nat} {m : List (Nat × BitVec w)} {a size : Nat} {vs : List (BitVec w)}
    (old : ∀ c ∈ m, c.1 < size) (fits : a + vs.length ≤ size) : ∀ c ∈ Memory.store m a vs, c.1 < size := by
  intro c hc
  rcases Memory.mem_store m a vs c hc with hm | ⟨-, hlt⟩
  · exact old c hm
  · omega

namespace State.Inv

section
variable {s : State} (hs : s.Inv)
include hs

theorem withHost (pending : List HostAction) : { s with host := pending }.Inv := { hs with }
theorem setPc (v : BitVec 16) : (s.setPc v).Inv := { hs with }
theorem writeIrqEnable (v : BitVec 32) : (s.writeIrqEnable v).Inv := { hs with }

theorem storeDmem (a : Nat) (bytes : List (BitVec 8)) (fits : a + bytes.length ≤ s.sizes.dmemBytes) :
    (s.storeDmem a bytes).Inv :=
  { hs with
    dmemForm := s.storeDmem_wf a bytes hs.dmemForm
    dmemSize := Memory.store_within hs.dmemSize fits }

theorem storeImem (i : Nat) (w : BitVec 32) (fits : i < s.sizes.imemWords) : (s.storeImem i w).Inv :=
  { hs with
    imemForm := s.storeImem_wf i w hs.imemForm
    imemSize := Memory.store_within hs.imemSize fits }

/-- A change of `STATE` that has to do with no fault. -/
theorem setRun (r : RunState) (before : s.run ≠ .faulted) (after : r ≠ .faulted) : (s.setRun r).Inv :=
  { hs with
    noFault := fun _ => hs.noFault before
    cause := fun h => absurd h after }

/-- Taking a fault records one of the causes, in every state. -/
theorem raise (e : Trap) : (s.raise e).Inv :=
  { hs with
    noFault := fun h => absurd rfl h
    cause := fun _ => e.cause.code_range }

theorem clearFault : s.clearFault.Inv :=
  { hs with
    noFault := fun _ => ⟨rfl, rfl, rfl⟩
    cause := nofun }

theorem softReset : s.softReset.Inv :=
  { hs with
    hardwired := by simp
    noFault := fun _ => ⟨rfl, rfl, rfl⟩
    cause := nofun }

theorem hardReset : s.hardReset.Inv :=
  { hs.softReset with
    dmemForm := .nil
    imemForm := .nil
    dmemSize := nofun
    imemSize := nofun }

/-- What is within the frame of a state that is not FAULTED keeps its invariant. -/
theorem ofFrame {t : State} (frame : ProgramFrame s t) (before : s.run ≠ .faulted) : t.Inv := by
  have dmem : Memory.wf t.dmem ∧ ∀ c ∈ t.dmem, c.1 < s.sizes.dmemBytes := by
    rcases frame.dmem with same | ⟨ea, bytes, fits, stored⟩
    · exact same ▸ ⟨hs.dmemForm, hs.dmemSize⟩
    · exact stored ▸ ⟨Memory.wf_store _ _ _ hs.dmemForm, Memory.store_within hs.dmemSize fits⟩
  exact
    { hardwired := frame.a0.trans hs.hardwired
      dmemForm := dmem.1
      imemForm := frame.imem ▸ hs.imemForm
      dmemSize := frame.sizes ▸ dmem.2
      imemSize := by rw [frame.imem, frame.sizes]; exact hs.imemSize
      sizes := frame.sizes ▸ hs.sizes
      noFault := fun _ => by
        rw [frame.faultCause, frame.faultPc, frame.faultInfo]
        exact hs.noFault before
      cause := fun h => absurd (frame.run.symm.trans h) before }

end

end State.Inv

/-! ### Instructions, host actions and steps keep the invariant -/

theorem exec_keeps_inv {i : Instr} {s t : State} (hs : s.Inv) (before : s.run ≠ .faulted)
    (h : exec i s = .next t) : t.Inv := by
  by_cases hi : i = .halt
  · subst hi
    rw [exec_halt_next h]
    exact (hs.setRun .halted before nofun).setPc _
  · rcases exec_faultsOrFramed hi h with ⟨e, rfl⟩ | frame
    · exact hs.raise e
    · exact hs.ofFrame frame before

theorem sequencerStep_keeps_inv {s t : State} (hs : s.Inv) (h : s.sequencerStep = .next t) : t.Inv := by
  unfold State.sequencerStep at h
  cases hr : s.run with
  | idle | halted | faulted =>
    simp only [hr] at h
    exact Host.Outcome.next.inj h ▸ hs
  | running =>
    simp only [hr] at h
    cases hf : s.fetchInstr with
    | error e =>
      simp only [hf] at h
      exact Host.Outcome.next.inj h ▸ hs.raise e
    | ok i =>
      simp only [hf] at h
      exact exec_keeps_inv hs (by simp [hr]) h

theorem start_keeps_inv {s : State} (hs : s.Inv) : s.start.Inv := by
  unfold State.start
  split
  · next hr => exact hs.setRun .running (by rcases hr with hr | hr <;> simp [hr]) nofun
  · exact hs

theorem writeCtrl_keeps_inv {s : State} (hs : s.Inv) (v : BitVec 32) : (s.writeCtrl v).Inv := by
  unfold State.writeCtrl
  split_ifs
  · exact hs.softReset
  · exact hs.clearFault
  · exact start_keeps_inv hs
  · exact hs

theorem writePc_keeps_inv {s : State} (hs : s.Inv) (v : BitVec 32) : (s.writePc v).Inv := by
  unfold State.writePc
  split
  · exact hs
  · exact hs.setPc _

theorem hostWriteReg_keeps_inv {s t : State} {offset : Nat} {v : BitVec 32} (hs : s.Inv)
    (h : s.hostWriteReg offset v = .next t) : t.Inv := by
  unfold State.hostWriteReg at h
  split_ifs at h
  · exact Host.Outcome.next.inj h ▸ writeCtrl_keeps_inv hs v
  · exact Host.Outcome.next.inj h ▸ writePc_keeps_inv hs v
  · exact Host.Outcome.next.inj h ▸ hs.writeIrqEnable v
  · exact Host.Outcome.next.inj h ▸ hs

theorem hostWriteImem_keeps_inv {s t : State} {i : Nat} {w : BitVec 32} (hs : s.Inv)
    (h : s.hostWriteImem i w = .next t) : t.Inv := by
  unfold State.hostWriteImem at h
  split_ifs at h with _ fits
  · exact Host.Outcome.next.inj h ▸ hs
  · exact Host.Outcome.next.inj h ▸ hs.storeImem i w fits

theorem hostWriteDmem_keeps_inv {s t : State} {a : Nat} {bytes : List (BitVec 8)} (hs : s.Inv)
    (h : s.hostWriteDmem a bytes = .next t) : t.Inv := by
  unfold State.hostWriteDmem at h
  split_ifs at h with _ fits
  · exact Host.Outcome.next.inj h ▸ hs
  · exact Host.Outcome.next.inj h ▸ hs.storeDmem a bytes fits

theorem hostAct_keeps_inv {s t : State} {x : HostAction} (hs : s.Inv) (h : s.hostAct x = .next t) : t.Inv := by
  cases x with
  | turn => exact Host.Outcome.next.inj h ▸ hs
  | hardReset => exact Host.Outcome.next.inj h ▸ hs.hardReset
  | writeReg => exact hostWriteReg_keeps_inv hs h
  | writeImem => exact hostWriteImem_keeps_inv hs h
  | writeDmem => exact hostWriteDmem_keeps_inv hs h

/-- A step is the sequencer's or one action of the host's, on the state without that action pending (log 6). -/
theorem step_cases {s t : State} (h : step s = .next t) :
    ∃ pending, { s with host := pending }.sequencerStep = .next t ∨
      ∃ x, { s with host := pending }.hostAct x = .next t := by
  unfold step at h
  split at h
  · next hp => exact ⟨[], .inl (hp ▸ h)⟩
  · exact ⟨_, .inl h⟩
  all_goals exact ⟨_, .inr ⟨_, h⟩⟩

/-- Settles O54: the sequencer's step and the host's actions keep the invariant, and what is pending is no part of
it. -/
theorem stepKeepsInvariant : Obligations.StepKeepsInvariant := by
  unfold Obligations.StepKeepsInvariant
  intro s t hs h
  obtain ⟨pending, sequencer | ⟨x, host⟩⟩ := step_cases h
  · exact sequencerStep_keeps_inv (hs.withHost pending) sequencer
  · exact hostAct_keeps_inv (hs.withHost pending) host

end Sys2Proof.Machine
end

section
/-! PROOFS. The seven files of value registers spoken of as one, and what an instruction writes: value registers, an
address register, `T` (O47, O48, O49). -/

namespace Sys2Proof.Machine

/-! ### The value files, by their name -/

/-- What a register of the file holds (R25 to R31). -/
def ValueFile.Contents : ValueFile → Type
  | .k => BitVec 384
  | .f => Fp
  | .q => Fp2
  | .s => Fp6
  | .t => Fp12
  | .g => G1Point
  | .h => G2Point

/-- How many registers the file has (R25 to R31). -/
def ValueFile.size : ValueFile → Nat
  | .k | .s | .t | .g | .h => 8
  | .f | .q => 16

/-- The file of this name. -/
def State.file (s : State) : (c : ValueFile) → Vector (VReg c.Contents) c.size
  | .k => s.k
  | .f => s.f
  | .q => s.q
  | .s => s.s
  | .t => s.t
  | .g => s.g
  | .h => s.h

/-- A write of a register of the file of this name: one of `setK` to `setH`. -/
def State.setFile (s : State) : (c : ValueFile) → Fin c.size → c.Contents → State
  | .k => s.setK
  | .f => s.setF
  | .q => s.setQ
  | .s => s.setS
  | .t => s.setT
  | .g => s.setG
  | .h => s.setH

theorem State.setFile_file_same (s : State) (c : ValueFile) (i : Fin c.size) (v : c.Contents) :
    (s.setFile c i v).file c = setReg (s.file c) i v := by
  cases c <;> rfl

theorem State.setFile_file_of_ne (s : State) {c d : ValueFile} (h : c ≠ d) (i : Fin c.size) (v : c.Contents) :
    (s.setFile c i v).file d = s.file d := by
  cases c <;> cases d <;> try rfl
  all_goals exact absurd rfl h

@[simp] theorem State.setFile_a (s : State) (c : ValueFile) (i : Fin c.size) (v : c.Contents) :
    (s.setFile c i v).a = s.a := by
  cases c <;> rfl

@[simp] theorem State.setFile_tflag (s : State) (c : ValueFile) (i : Fin c.size) (v : c.Contents) :
    (s.setFile c i v).tflag = s.tflag := by
  cases c <;> rfl

theorem State.setFile_getElem (s : State) {c d : ValueFile} (i : Fin c.size) (v : c.Contents) (j : Fin d.size)
    (h : (d, j.val) ≠ (c, i.val)) : ((s.setFile c i v).file d)[j] = (s.file d)[j] := by
  by_cases hc : c = d
  · subst hc
    have hij : i ≠ j := fun e => h (by rw [e])
    rw [State.setFile_file_same, setReg_getElem, if_neg hij]
  · rw [State.setFile_file_of_ne s hc]

theorem State.isValid_eq_any (s : State) (c : ValueFile) (n : Nat) :
    s.isValid (c, n) = (s.file c)[n]?.any (·.valid) := by
  cases c <;> rfl

@[simp] theorem State.isValid_file (s : State) (c : ValueFile) (i : Fin c.size) :
    s.isValid (c, i.val) = (s.file c)[i].valid := by
  simp [State.isValid_eq_any]

theorem State.isValid_of_size_le (s : State) {c : ValueFile} {n : Nat} (h : c.size ≤ n) :
    s.isValid (c, n) = false := by
  simp [State.isValid_eq_any, h]

theorem State.isValid_setFile_same (s : State) (c : ValueFile) (i : Fin c.size) (v : c.Contents) :
    (s.setFile c i v).isValid (c, i.val) = true := by
  rw [State.isValid_file, State.setFile_file_same, setReg_getElem, if_pos rfl]

/-- Registers of `t` that are those of `s` have the valid bits of `s`. -/
theorem State.isValid_eq_of_file {s t : State} {r : ValueFile × Nat}
    (h : ∀ j : Fin r.1.size, j.val = r.2 → (t.file r.1)[j] = (s.file r.1)[j]) : t.isValid r = s.isValid r := by
  obtain ⟨c, n⟩ := r
  by_cases hn : n < c.size
  · have same := h ⟨n, hn⟩ rfl
    exact (t.isValid_file c ⟨n, hn⟩).trans ((congrArg _ same).trans (s.isValid_file c ⟨n, hn⟩).symm)
  · rw [State.isValid_of_size_le t (by omega), State.isValid_of_size_le s (by omega)]

/-! ### What an instruction that completes writes -/

/-- `t` is `s` but for the value registers in `values`, which are valid in `t`, the address register `address`, if
any, `T`, if `test` is set, and what is no register a program names. -/
structure RegisterFrame (values : List (ValueFile × Nat)) (address : Option AReg) (test : Bool) (s t : State) :
    Prop where
  others : ∀ (c : ValueFile) (j : Fin c.size), (c, j.val) ∉ values → (t.file c)[j] = (s.file c)[j]
  written : ∀ r ∈ values, t.isValid r = true
  address : ∀ j : AReg, address ≠ some j → t.a[j] = s.a[j]
  test : test = false → t.tflag = s.tflag

namespace RegisterFrame

theorem refl (s : State) : RegisterFrame [] none false s s := ⟨fun _ _ _ => rfl, nofun, fun _ _ => rfl, fun _ => rfl⟩

theorem setA {s u : State} (frame : RegisterFrame [] none false s u) (i : AReg) (v : BitVec 16) :
    RegisterFrame [] (some i) false s (u.setA i v) where
  others c j hj := by
    rw [← frame.others c j hj]
    cases c <;> simp only [State.file, State.setA_k, State.setA_f, State.setA_q, State.setA_s, State.setA_t,
      State.setA_g, State.setA_h]
  written := nofun
  address j hj := by
    have hij : i.val ≠ j.val := fun e => hj (congrArg some (Fin.ext e))
    rw [State.setA_a, ← frame.address j nofun]
    split
    · rfl
    · exact Vector.getElem_set_ne _ _ hij
  test h := (State.setA_tflag u i v).trans (frame.test h)

theorem setTest (s : State) (b : Bool) : RegisterFrame [] none true s (s.setTest b) := { refl s with test := nofun }

theorem storeDmem (s : State) (ea : Nat) (bytes : List (BitVec 8)) :
    RegisterFrame [] none false s (s.storeDmem ea bytes) := { refl s with }

section
variable {s u : State} {values : List (ValueFile × Nat)} {address : Option AReg} {test : Bool}
  (frame : RegisterFrame values address test s u)
include frame

theorem setPc (v : BitVec 16) : RegisterFrame values address test s (u.setPc v) := { frame with }
theorem setRun (r : RunState) : RegisterFrame values address test s (u.setRun r) := { frame with }
theorem drew : RegisterFrame values address test s u.drew := { frame with }
theorem advance : RegisterFrame values address test s u.advance := frame.setPc _

theorem setFile (c : ValueFile) (i : Fin c.size) (v : c.Contents) :
    RegisterFrame (values ++ [(c, i.val)]) address test s (u.setFile c i v) where
  others d j hj := by
    rw [List.mem_append, List.mem_singleton, not_or] at hj
    rw [State.setFile_getElem u i v j hj.2, frame.others d j hj.1]
  written r hr := by
    by_cases same : r = (c, i.val)
    · rw [same, State.isValid_setFile_same]
    · have old : r ∈ values := (List.mem_append.1 hr).resolve_right fun h => same (List.mem_singleton.1 h)
      rw [State.isValid_eq_of_file fun j hj => State.setFile_getElem u i v j (by rw [hj]; exact same),
        frame.written r old]
  address j hj := by rw [State.setFile_a, frame.address j hj]
  test h := by rw [State.setFile_tflag, frame.test h]

/-- A register of `s` that is valid stays so: it is written, or it is as it was. -/
theorem keeps_valid {r : ValueFile × Nat} (h : s.isValid r = true) : u.isValid r = true := by
  by_cases hr : r ∈ values
  · exact frame.written r hr
  · rw [State.isValid_eq_of_file fun j hj => frame.others r.1 j (by rw [hj]; exact hr), h]

end

/-- A write of one value register. -/
theorem write (s : State) (c : ValueFile) (i : Fin c.size) (v : c.Contents) :
    RegisterFrame [(c, i.val)] none false s (s.setFile c i v) := (refl s).setFile c i v

end RegisterFrame

/-! ### How an instruction ends, whatever is said of the state it computes -/

/-- What has been computed, if it is no fault, has the property. -/
def Yields (P : State → Prop) (r : Except Trap State) : Prop := ∀ u, r = .ok u → P u

/-- The instruction faulted in the state `s` it found, or it completed and the property holds of what it left. -/
def FaultsOr (P : State → Prop) (s t : State) : Prop := (∃ e, t = s.raise e) ∨ P t

section
variable {P : State → Prop}

theorem yields_ok {u : State} (h : P u) : Yields P (.ok u) := fun _ hu => Except.ok.inj hu ▸ h

/-- A read, a check or an operation without a value for some operands comes before the write. -/
theorem yields_bind {α : Type} {x : Except Trap α} {g : α → Except Trap State} (h : ∀ v, Yields P (g v)) :
    Yields P (x.bind g) := by
  cases x with
  | error e => exact nofun
  | ok v => exact h v

theorem yields_memWrite {s : State} {ea : Nat} {bytes : List (BitVec 8)} (h : P (s.storeDmem ea bytes)) :
    Yields P (s.memWrite ea bytes) :=
  fun u hu => ((State.memWrite_eq_ok s ea bytes u).1 hu).2 ▸ h

end

theorem complete_faultsOr {P : State → Prop} {s t : State} {r : Except Trap State} (h : complete s r = .next t)
    (hr : Yields (fun u => P u.advance) r) : FaultsOr P s t := by
  rcases complete_next s t r h with ⟨u, hu, rfl⟩ | ⟨e, -, rfl⟩
  · exact .inr (hr u hu)
  · exact .inl ⟨e, rfl⟩

theorem decodePoint_faultsOr {P : State → Prop} {s t : State} {α : Type} {c : AReg} {ea n : Nat}
    {dec : List (BitVec 8) → Except Trap α} {write : α → State} (h : decodePoint s c ea n dec write = .next t)
    (hw : ∀ v, P (write v).advance) : FaultsOr P s t := by
  rcases decodePoint_next s t c ea n dec write h with ⟨-, loaded⟩ | ⟨-, rfl⟩
  · exact complete_faultsOr loaded (yields_bind fun _ => yields_bind fun v => yields_ok (hw v))
  · exact .inl ⟨_, rfl⟩

theorem complete_ok_faultsOr {P : State → Prop} {s t u : State} (h : complete s (.ok u) = .next t) (hu : P u.advance) :
    FaultsOr P s t :=
  complete_faultsOr h (yields_ok hu)

/-! ### Every instruction -/

/-- Every instruction faults in the state it found, or writes just what the tables of destinations name: one arm for
each number of reads and checks before a write, and each kind of write. -/
theorem exec_faultsOr_registerFrame {i : Instr} {s t : State} (h : exec i s = .next t) :
    FaultsOr (RegisterFrame (valueDestinations i) (addressDestination i) (writesTest i) s) s t := by
  have same := RegisterFrame.refl s
  have write := RegisterFrame.write s
  have test := RegisterFrame.setTest s
  cases i with
  | nop => exact complete_ok_faultsOr h same.advance
  | halt => exact complete_ok_faultsOr h (same.setRun _).advance
  | trap => exact .inl ⟨_, (Host.Outcome.next.inj h).symm⟩
  | j | bt | bf | banz => exact .inr (branch_next s t _ _ h ▸ same.setPc _)
  | jr => exact .inr (Host.Outcome.next.inj h ▸ same.setPc _)
  | jal => exact .inr (Host.Outcome.next.inj h ▸ (same.setPc _).setA _ _)
  | aLi | aAddi => exact complete_ok_faultsOr h (same.setA _ _).advance
  -- constants
  | kLi | fpLi | fp2Li | fp6Li | fp12Li | g1Zero | g2Zero => exact complete_ok_faultsOr h (write _ _ _).advance
  -- stores and encodes
  | kSt | fpSt | fp2St | fp6St | fp12St | g1Enc | g2Enc =>
    exact complete_faultsOr h (yields_bind fun _ => yields_memWrite (RegisterFrame.storeDmem s _ _).advance)
  -- loads (the bytes, the value they spell) and decodes
  | kLd | fpLd | fp2Ld | fp6Ld | fp12Ld =>
    exact complete_faultsOr h (yields_bind fun _ => yields_bind fun _ => yields_ok (write _ _ _).advance)
  | g1Dec | g2Dec => exact decodePoint_faultsOr h fun _ => (write _ _ _).advance
  -- one source
  | kMov | kModr | fpMov | fpNeg | fpSqr | fpCube | fpHalve | fp2Mov | fp2Neg | fp2Sqr | fp2Cube | fp2Halve | fp2Get
  | fp6Mov | fp6Neg | fp6Sqr | fp6Cube | fp6Halve | fp6Get | fp12Mov | fp12Neg | fp12Sqr | fp12Cube | fp12Halve
  | fp12Get | fp12Powp | fp12Conj | g1Mov | g1Dbl | g1Neg | g1Clrcof | g1Get | g2Mov | g2Dbl | g2Neg | g2Clrcof
  | g2Get | g2Psi | g2Psi2 =>
    exact complete_faultsOr h (yields_bind fun _ => yields_ok (write _ _ _).advance)
  -- two sources, or one and an operation without a value for some operands
  | fpAdd | fpSub | fpMul | fpScale | fpPow | fp2Add | fp2Sub | fp2Mul | fp2Scale | fp2Pow | fp2Pack | fp6Add | fp6Sub
  | fp6Mul | fp6Scale | fp6Pow | fp12Add | fp12Sub | fp12Mul | fp12Scale | fp12Pow | fp12Pack | g1Add | g1Scale
  | g1Fromaff | g2Add | g2Scale | g2Fromaff | fpInv | fpSqrt | fp2Inv | fp2Sqrt | fp6Inv | fp12Inv | finalExp =>
    exact complete_faultsOr h (yields_bind fun _ => yields_bind fun _ => yields_ok (write _ _ _).advance)
  -- three sources, or two and an operation or a check that can fail
  | fp6Pack | g1Pack | g2Pack | fpDiv | fp2Div | fp6Div | fp12Div | miller =>
    exact complete_faultsOr h
      (yields_bind fun _ => yields_bind fun _ => yields_bind fun _ => yields_ok (write _ _ _).advance)
  -- tests
  | fpIszero | fpIsone | fp2Iszero | fp2Isone | fp6Iszero | fp6Isone | fp12Iszero | fp12Isone | g1Iszero | g1Isvalid
  | g2Iszero | g2Isvalid => exact complete_faultsOr h (yields_bind fun _ => yields_ok (test _).advance)
  | fpEq | fp2Eq | fp6Eq | fp12Eq | g1Eq | g2Eq | finalVerify =>
    exact complete_faultsOr h (yields_bind fun _ => yields_bind fun _ => yields_ok (test _).advance)
  -- two destinations
  | g1Toaff => exact complete_faultsOr h (yields_bind fun _ => yields_ok ((write .f _ _).setFile .f _ _).advance)
  | g2Toaff => exact complete_faultsOr h (yields_bind fun _ => yields_ok ((write .q _ _).setFile .q _ _).advance)
  -- the cyclotomic operations, which draw a free value outside the subgroup (U1, log 4)
  | fp12Cycsqr a b =>
    refine complete_faultsOr h (yields_bind fun x => yields_ok (RegisterFrame.advance ?_))
    dsimp only
    split_ifs
    · exact write .t a _
    · exact (write .t a _).drew
  | fp12Cycpow a b c =>
    refine complete_faultsOr h (yields_bind fun x => yields_bind fun n => yields_ok (RegisterFrame.advance ?_))
    dsimp only
    split_ifs
    · exact write .t a _
    · exact write .t a _
    · exact write .t a _
    · exact (write .t a _).drew

/-! ### The statements -/

/-- Settles O47: a fault keeps every valid bit, and what an instruction writes is valid. -/
theorem validBitsOnlyRise : Obligations.ValidBitsOnlyRise := by
  unfold Obligations.ValidBitsOnlyRise
  intro i s t r h
  rcases exec_faultsOr_registerFrame h with ⟨e, rfl⟩ | frame
  · exact ⟨id, fun _ completed => absurd rfl completed⟩
  · exact ⟨frame.keeps_valid, fun _ _ => frame.written r⟩

/-- Settles O48: a fault writes no value register, and an instruction that completes those of its table row. -/
theorem onlyDestinationsChange : Obligations.OnlyDestinationsChange := by
  unfold Obligations.OnlyDestinationsChange
  intro i s t h
  have others : ∀ (c : ValueFile) (j : Fin c.size), (c, j.val) ∉ valueDestinations i →
      (t.file c)[j] = (s.file c)[j] := by
    rcases exec_faultsOr_registerFrame h with ⟨e, rfl⟩ | frame
    · exact fun _ _ _ => rfl
    · exact frame.others
  exact ⟨others .k, others .f, others .q, others .s, others .t, others .g, others .h⟩

/-- The stored `a0` is written by nothing (R24). -/
theorem exec_keeps_stored_a0 {i : Instr} {s t : State} (h : exec i s = .next t) : t.a[0] = s.a[0] := by
  by_cases hi : i = .halt
  · subst hi
    rw [exec_halt_next h]
    rfl
  · rcases exec_faultsOrFramed hi h with ⟨e, rfl⟩ | frame
    · rfl
    · exact frame.a0

/-- Settles O49: a fault writes neither `T` nor an address register, an instruction that completes those its table
rows name, and nothing the stored `a0`. -/
theorem testFlagAndAddressFrame : Obligations.TestFlagAndAddressFrame := by
  unfold Obligations.TestFlagAndAddressFrame
  intro i s t h
  refine and_assoc.1 ⟨?_, exec_keeps_stored_a0 h⟩
  rcases exec_faultsOr_registerFrame h with ⟨e, rfl⟩ | frame
  · exact ⟨fun _ => rfl, fun _ _ => rfl⟩
  · exact ⟨frame.test, frame.address⟩

end Sys2Proof.Machine
end

section
/-! PROOFS. The first source register that is not valid is the fault (O42), and `T` decides nothing but `BT` and `BF`
(O53). -/

namespace Sys2Proof.Machine

/-! ### The reads come first, in the order of the fields -/

/-- The fault of a read of this register (R527). -/
def uninitTrap (r : ValueFile × Nat) : Trap := ⟨.uninitReg, r.1.code * 16 + r.2⟩

/-- If one of the registers is not valid, the fault is that of the first such one. -/
def ReportsFirst {α : Type} (s : State) (sources : List (ValueFile × Nat)) (x : Except Trap α) : Prop :=
  ∀ before r after, sources = before ++ r :: after → (∀ y ∈ before, s.isValid y = true) → s.isValid r = false →
    x = .error (uninitTrap r)

theorem reportsFirst_nil {α : Type} {s : State} {x : Except Trap α} : ReportsFirst s [] x :=
  fun _ _ _ noSource => absurd noSource (by simp)

theorem readReg_file_of_valid {s : State} {c : ValueFile} {i : Fin c.size} (h : s.isValid (c, i.val) = true) :
    readReg c.code (s.file c) i = .ok (s.file c)[i].val :=
  if_pos ((s.isValid_file c i).symm.trans h)

theorem readReg_file_of_not_valid {s : State} {c : ValueFile} {i : Fin c.size} (h : s.isValid (c, i.val) = false) :
    readReg c.code (s.file c) i = .error (uninitTrap (c, i.val)) :=
  (readReg_eq_error _ _ _ _).2 ⟨(s.isValid_file c i).symm.trans h, rfl⟩

/-- A read, then what else reads the remaining registers in order. -/
theorem reportsFirst_read {β : Type} {s : State} {c : ValueFile} {i : Fin c.size} {rest : List (ValueFile × Nat)}
    {g : c.Contents → Except Trap β} (h : ∀ v, ReportsFirst s rest (g v)) :
    ReportsFirst s ((c, i.val) :: rest) ((readReg c.code (s.file c) i).bind g) := by
  intro before r after split valid uninit
  cases before with
  | nil =>
    obtain ⟨rfl, -⟩ := List.cons.inj split
    rw [readReg_file_of_not_valid uninit]
    rfl
  | cons y ys =>
    obtain ⟨rfl, tail⟩ := List.cons.inj split
    rw [readReg_file_of_valid (valid _ List.mem_cons_self)]
    exact h _ ys r after tail (fun z hz => valid z (List.mem_cons_of_mem _ hz)) uninit

/-- An instruction without sources apart, every one reads its sources before anything else can fault: one arm for each
number of sources. -/
theorem exec_reportsFirst (i : Instr) (s : State) :
    valueSources i = [] ∨ ∃ r, exec i s = complete s r ∧ ReportsFirst s (valueSources i) r := by
  cases i with
  | nop | halt | trap | j | bt | bf | banz | jal | jr | aLi | aAddi | kLd | kLi | fpLd | fpLi | fp2Ld | fp2Li | fp6Ld
  | fp6Li | fp12Ld | fp12Li | g1Dec | g1Zero | g2Dec | g2Zero => exact .inl rfl
  -- one source
  | kSt | kMov | kModr | fpSt | fpMov | fpNeg | fpSqr | fpCube | fpHalve | fpInv | fpSqrt | fpIszero | fpIsone | fp2St
  | fp2Mov | fp2Neg | fp2Sqr | fp2Cube | fp2Halve | fp2Inv | fp2Sqrt | fp2Iszero | fp2Isone | fp2Get | fp6St | fp6Mov
  | fp6Neg | fp6Sqr | fp6Cube | fp6Halve | fp6Inv | fp6Iszero | fp6Isone | fp6Get | fp12St | fp12Mov | fp12Neg
  | fp12Sqr | fp12Cube | fp12Halve | fp12Inv | fp12Iszero | fp12Isone | fp12Get | fp12Powp | fp12Conj | fp12Cycsqr
  | g1Enc | g1Mov | g1Dbl | g1Neg | g1Clrcof | g1Toaff | g1Get | g1Iszero | g1Isvalid | g2Enc | g2Mov | g2Dbl | g2Neg
  | g2Clrcof | g2Toaff | g2Get | g2Iszero | g2Isvalid | g2Psi | g2Psi2 | finalExp | finalVerify =>
    exact .inr ⟨_, rfl, reportsFirst_read fun _ => reportsFirst_nil⟩
  -- two sources
  | fpAdd | fpSub | fpMul | fpScale | fpPow | fpDiv | fpEq | fp2Add | fp2Sub | fp2Mul | fp2Scale | fp2Pow | fp2Div
  | fp2Eq | fp2Pack | fp6Add | fp6Sub | fp6Mul | fp6Scale | fp6Pow | fp6Div | fp6Eq | fp12Add | fp12Sub | fp12Mul
  | fp12Scale | fp12Pow | fp12Div | fp12Eq | fp12Pack | fp12Cycpow | g1Add | g1Scale | g1Fromaff | g1Eq | g2Add
  | g2Scale | g2Fromaff | g2Eq | miller =>
    exact .inr ⟨_, rfl, reportsFirst_read fun _ => reportsFirst_read fun _ => reportsFirst_nil⟩
  -- three sources
  | fp6Pack | g1Pack | g2Pack =>
    exact .inr ⟨_, rfl,
      reportsFirst_read fun _ => reportsFirst_read fun _ => reportsFirst_read fun _ => reportsFirst_nil⟩

/-- Settles O42: an instruction with sources is a completion of what reads them in order. -/
theorem uninitializedSourceFaults : Obligations.UninitializedSourceFaults := by
  unfold Obligations.UninitializedSourceFaults
  intro i s before after r sources valid uninit
  rcases exec_reportsFirst i s with noSource | ⟨x, reads, first⟩
  · exact absurd (noSource.symm.trans sources) (by simp)
  · rw [reads, first before r after sources valid uninit]
    rfl

/-! ### What does not depend on `T` -/

/-- The two states agree in everything but `T`. -/
def State.EqButTest (t u : State) : Prop := u.setTest false = t.setTest false

/-- The same fault, or states that agree in everything but `T`. -/
inductive AgreeButTest : Except Trap State → Except Trap State → Prop
  | error (e : Trap) : AgreeButTest (.error e) (.error e)
  | ok {t u : State} (h : t.EqButTest u) : AgreeButTest (.ok t) (.ok u)

theorem agree_bind {α : Type} {x : Except Trap α} {g g' : α → Except Trap State} (h : ∀ v, AgreeButTest (g v) (g' v)) :
    AgreeButTest (x.bind g) (x.bind g') := by
  cases x with
  | error e => exact .error e
  | ok v => exact h v

theorem agree_memWrite (s : State) (b : Bool) (ea : Nat) (bytes : List (BitVec 8)) :
    AgreeButTest (s.memWrite ea bytes) ((s.setTest b).memWrite ea bytes) := by
  by_cases h : s.sizes.dmemBytes < ea + bytes.length
  · rw [State.memWrite, State.memWrite, State.setTest_sizes, if_pos h, if_pos h]
    exact .error _
  · rw [State.memWrite, State.memWrite, State.setTest_sizes, if_neg h, if_neg h]
    exact .ok rfl

theorem eqButTest_of_next {t u x y : State} (h : (.next x : Result) = .next t) (h' : (.next y : Result) = .next u)
    (same : x.EqButTest y) : t.EqButTest u := by
  cases h
  cases h'
  exact same

theorem complete_agree {s t u : State} {b : Bool} {r r' : Except Trap State} (h : complete s r = .next t)
    (h' : complete (s.setTest b) r' = .next u) (agree : AgreeButTest r r') : t.EqButTest u := by
  cases agree with
  | error e => exact eqButTest_of_next h h' rfl
  | ok same => exact eqButTest_of_next h h' (congrArg State.advance same)

@[simp] theorem State.setTest_readA (s : State) (b : Bool) (c : AReg) : (s.setTest b).readA c = s.readA c := rfl

theorem decodePoint_agree {s t u : State} {b : Bool} {α : Type} {c : AReg} {ea n : Nat}
    {dec : List (BitVec 8) → Except Trap α} {write write' : α → State} (h : decodePoint s c ea n dec write = .next t)
    (h' : decodePoint (s.setTest b) c ea n dec write' = .next u) (hw : ∀ v, (write v).EqButTest (write' v)) :
    t.EqButTest u := by
  unfold decodePoint at h h'
  split at h
  · next len =>
    rw [State.setTest_readA, if_pos len] at h'
    exact complete_agree h h' (agree_bind fun _ => agree_bind fun v => .ok (hw v))
  · next len =>
    rw [State.setTest_readA, if_neg len] at h'
    exact eqButTest_of_next h h' rfl

theorem State.setA_eqButTest (s : State) (b : Bool) (i : AReg) (v : BitVec 16) :
    (s.setA i v).EqButTest ((s.setTest b).setA i v) := by
  unfold State.EqButTest State.setA
  split <;> rfl

/-- But for the two branches on it, no instruction does anything to the rest of the state that `T` decides. -/
theorem exec_eqButTest {i : Instr} {s t u : State} {b : Bool} (notBt : ∀ off, i ≠ .bt off)
    (notBf : ∀ off, i ≠ .bf off) (h : exec i s = .next t) (h' : exec i (s.setTest b) = .next u) : t.EqButTest u := by
  cases i with
  | bt off => exact absurd rfl (notBt off)
  | bf off => exact absurd rfl (notBf off)
  | nop | halt | trap | j | banz | jr | kLi | fpLi | fp2Li | fp6Li | fp12Li | g1Zero | g2Zero =>
    exact eqButTest_of_next h h' rfl
  | jal => exact eqButTest_of_next h h' (State.setA_eqButTest _ b _ _)
  | aLi | aAddi => exact eqButTest_of_next h h' (congrArg State.advance (State.setA_eqButTest s b _ _))
  | kSt | fpSt | fp2St | fp6St | fp12St | g1Enc | g2Enc =>
    exact complete_agree h h' (agree_bind fun _ => agree_memWrite s b _ _)
  | g1Dec | g2Dec => exact decodePoint_agree h h' (fun _ => rfl)
  -- one read or check before the write
  | kMov | kModr | fpMov | fpNeg | fpSqr | fpCube | fpHalve | fp2Mov | fp2Neg | fp2Sqr | fp2Cube | fp2Halve | fp2Get
  | fp6Mov | fp6Neg | fp6Sqr | fp6Cube | fp6Halve | fp6Get | fp12Mov | fp12Neg | fp12Sqr | fp12Cube | fp12Halve
  | fp12Get | fp12Powp | fp12Conj | g1Mov | g1Dbl | g1Neg | g1Clrcof | g1Get | g2Mov | g2Dbl | g2Neg | g2Clrcof
  | g2Get | g2Psi | g2Psi2 | g1Toaff | g2Toaff | fpIszero | fpIsone | fp2Iszero | fp2Isone | fp6Iszero | fp6Isone
  | fp12Iszero | fp12Isone | g1Iszero | g1Isvalid | g2Iszero | g2Isvalid =>
    exact complete_agree h h' (agree_bind fun _ => .ok rfl)
  -- two
  | kLd | fpLd | fp2Ld | fp6Ld | fp12Ld | fpAdd | fpSub | fpMul | fpScale | fpPow | fp2Add | fp2Sub | fp2Mul | fp2Scale
  | fp2Pow | fp2Pack | fp6Add | fp6Sub | fp6Mul | fp6Scale | fp6Pow | fp12Add | fp12Sub | fp12Mul | fp12Scale
  | fp12Pow | fp12Pack | g1Add | g1Scale | g1Fromaff | g2Add | g2Scale | g2Fromaff | fpInv | fpSqrt | fp2Inv | fp2Sqrt
  | fp6Inv | fp12Inv | finalExp | fpEq | fp2Eq | fp6Eq | fp12Eq | g1Eq | g2Eq | finalVerify =>
    exact complete_agree h h' (agree_bind fun _ => agree_bind fun _ => .ok rfl)
  -- three
  | fp6Pack | g1Pack | g2Pack | fpDiv | fp2Div | fp6Div | fp12Div | miller =>
    exact complete_agree h h' (agree_bind fun _ => agree_bind fun _ => agree_bind fun _ => .ok rfl)
  | fp12Cycsqr =>
    refine complete_agree h h' (agree_bind fun x => .ok ?_)
    dsimp only
    split <;> rfl
  | fp12Cycpow =>
    refine complete_agree h h' (agree_bind fun x => agree_bind fun n => .ok ?_)
    dsimp only
    split_ifs <;> rfl

/-- Settles O53: the same reads and checks come first, and what is then written is the same but for `T`. -/
theorem onlyBranchesDependOnT : Obligations.OnlyBranchesDependOnT := by
  unfold Obligations.OnlyBranchesDependOnT
  intro i s t u v notBt notBf h h'
  exact exec_eqButTest notBt notBf h h'

end Sys2Proof.Machine
end

section
/-! PROOFS. Waiting, reset and the host's registers and windows (O7, O55 to O60). -/

namespace Sys2Proof.Machine

/-! ### One step, by what the host has pending -/

theorem sequencerStep_of_not_running {s : State} (h : s.run ≠ .running) : s.sequencerStep = .next s := by
  unfold State.sequencerStep
  cases hr : s.run with
  | running => exact absurd hr h
  | idle | halted | faulted => rfl

theorem step_of_nothing_pending {s : State} (h : s.host = []) : step s = s.sequencerStep := by
  rw [step, h]

theorem step_of_turn {s : State} {rest : List HostAction} (h : s.host = .turn :: rest) :
    step s = { s with host := rest }.sequencerStep := by
  rw [step, h]

/-- An action of the host's other than the turn is the whole step. -/
theorem step_of_hostAct {s : State} {x : HostAction} {rest : List HostAction} (h : s.host = x :: rest)
    (notTurn : x ≠ .turn) : step s = { s with host := rest }.hostAct x := by
  rw [step, h]
  cases x with
  | turn => exact absurd rfl notTurn
  | hardReset | writeReg | writeImem | writeDmem => rfl

theorem step_of_writeCtrl {s : State} {v : BitVec 32} {rest : List HostAction}
    (h : s.host = .writeReg 0x04 v :: rest) : step s = .next ({ s with host := rest }.writeCtrl v) :=
  step_of_hostAct h nofun

/-- Settles O7: outside RUNNING the sequencer's step answers the same state. -/
theorem stepWaitsUnlessRunning : Obligations.StepWaitsUnlessRunning := by
  unfold Obligations.StepWaitsUnlessRunning
  intro s waiting
  refine ⟨fun nothing => ?_, fun rest turn => ?_⟩
  · rw [step_of_nothing_pending nothing, sequencerStep_of_not_running waiting]
  · rw [step_of_turn turn, sequencerStep_of_not_running (s := { s with host := rest }) waiting]

/-! ### Reset -/

/-- Settles O55: the memories are empty, the sizes are the defaults, and STATE is IDLE. -/
theorem resetHasInvariant : Obligations.ResetHasInvariant where
  hardwired := rfl
  dmemForm := State.reset_memories_wf.1
  imemForm := State.reset_memories_wf.2
  dmemSize := nofun
  imemSize := nofun
  sizes := by decide
  noFault _ := ⟨rfl, rfl, rfl⟩
  cause := nofun

/-- What both columns of R46 say of the registers. -/
structure State.ResetRegisters (t : State) : Prop where
  pc : t.pc = 0
  tflag : t.tflag = false
  a : ∀ j : AReg, t.a[j] = 0
  isValid : ∀ r, t.isValid r = false
  run : t.run = .idle
  faultCause : t.faultCause = 0
  faultPc : t.faultPc = 0
  faultInfo : t.faultInfo = 0

theorem isValid_resetWith (z : Config.Sizes) (r : ValueFile × Nat) : (State.resetWith z).isValid r = false := by
  obtain ⟨c, n⟩ := r
  by_cases hn : n < c.size
  · rw [State.isValid_file (c := c) _ ⟨n, hn⟩]
    cases c <;> exact congrArg VReg.valid (Vector.getElem_replicate _)
  · exact State.isValid_of_size_le _ (by omega)

theorem resetWith_resetRegisters (z : Config.Sizes) : (State.resetWith z).ResetRegisters :=
  ⟨rfl, rfl, fun _ => Vector.getElem_replicate _, isValid_resetWith z, rfl, rfl, rfl, rfl⟩

theorem softReset_resetRegisters (s : State) : s.softReset.ResetRegisters :=
  { resetWith_resetRegisters s.sizes with }

theorem hardReset_resetRegisters (s : State) : s.hardReset.ResetRegisters :=
  { resetWith_resetRegisters s.sizes with }

/-- A write of `CTRL` that sets `SRESET` is a soft reset, whatever else it sets (R36). -/
theorem writeCtrl_of_sreset {v : BitVec 32} (h : v.getLsbD 1 = true) (s : State) : s.writeCtrl v = s.softReset :=
  if_pos h

theorem irqEnable_hardReset (s : State) : s.hardReset.irqEnable = 0 := by
  simp [State.irqEnable]

/-- Settles O56: both resets leave the registers of `State.resetWith`, and a soft one keeps the rest. -/
theorem resetValues : Obligations.ResetValues := by
  unfold Obligations.ResetValues
  refine ⟨fun t ht => ?_, rfl, fun s rest pending => ?_, fun s v rest pending sreset => ?_⟩
  · have registers : t.ResetRegisters := by
      rcases ht with rfl | ⟨s, rfl⟩ | ⟨s, rfl⟩
      · exact resetWith_resetRegisters _
      · exact softReset_resetRegisters s
      · exact hardReset_resetRegisters s
    obtain ⟨pc, tflag, a, isValid, run, faultCause, faultPc, faultInfo⟩ := registers
    exact ⟨pc, tflag, a, isValid, run, faultCause, faultPc, faultInfo⟩
  · exact ⟨_, step_of_hostAct pending nofun, rfl, irqEnable_hardReset _⟩
  · exact ⟨_, (step_of_writeCtrl pending).trans (congrArg _ (writeCtrl_of_sreset sreset _)), rfl, rfl, fun _ => rfl,
      fun _ => rfl⟩

/-! ### A write of `CTRL` without `SRESET` -/

section
variable {s : State} {v : BitVec 32} (noReset : v.getLsbD 1 = false)
include noReset

theorem writeCtrl_of_not_faulted (notFaulted : s.run ≠ .faulted) :
    s.writeCtrl v = if v.getLsbD 0 then s.start else s := by
  rw [State.writeCtrl, noReset]
  simp [notFaulted]

/-- In FAULTED, `START` is ignored (log 9). -/
theorem writeCtrl_of_faulted (faulted : s.run = .faulted) :
    s.writeCtrl v = if v.getLsbD 2 then s.clearFault else s := by
  rw [State.writeCtrl, noReset]
  simp [faulted, State.start]

theorem writeCtrl_starts (waiting : s.run = .idle ∨ s.run = .halted) (start : v.getLsbD 0 = true) :
    s.writeCtrl v = s.setRun .running := by
  have notFaulted : s.run ≠ .faulted := by rcases waiting with h | h <;> simp [h]
  rw [writeCtrl_of_not_faulted noReset notFaulted, if_pos start, State.start, if_pos waiting]

theorem writeCtrl_of_no_start (notFaulted : s.run ≠ .faulted) (start : v.getLsbD 0 = false) :
    s.writeCtrl v = s := by
  rw [writeCtrl_of_not_faulted noReset notFaulted, start]
  rfl

theorem writeCtrl_clears (faulted : s.run = .faulted) (clear : v.getLsbD 2 = true) :
    s.writeCtrl v = s.clearFault := by
  rw [writeCtrl_of_faulted noReset faulted, if_pos clear]

theorem writeCtrl_of_no_clear (faulted : s.run = .faulted) (clear : v.getLsbD 2 = false) : s.writeCtrl v = s := by
  rw [writeCtrl_of_faulted noReset faulted, clear]
  rfl

theorem writeCtrl_of_running (running : s.run = .running) : s.writeCtrl v = s := by
  rw [writeCtrl_of_not_faulted noReset (by simp [running])]
  simp [State.start, running]

end

/-- Settles O57: the step is the write of `CTRL`, which is judged in the run state before it. -/
theorem controlRegisterWrites : Obligations.ControlRegisterWrites := by
  unfold Obligations.ControlRegisterWrites
  intro s v rest pending noReset
  rw [step_of_writeCtrl pending]
  refine ⟨fun waiting start => ?_, fun waiting start => ?_, fun running => ?_, fun faulted clear => ?_,
    fun faulted clear => ?_⟩
  · exact congrArg _ (writeCtrl_starts noReset waiting start)
  · have notFaulted : s.run ≠ .faulted := by rcases waiting with h | h <;> simp [h]
    exact congrArg _ (writeCtrl_of_no_start noReset notFaulted start)
  · exact congrArg _ (writeCtrl_of_running noReset running)
  · exact congrArg _ (writeCtrl_clears noReset faulted clear)
  · exact congrArg _ (writeCtrl_of_no_clear noReset faulted clear)

/-! ### The register block -/

theorem getLsbD_of_toNat_lt {n : Nat} {w : BitVec 32} (h : w.toNat < 2 ^ n) (j : Nat) (hj : n ≤ j) :
    w.getLsbD j = false :=
  Nat.testBit_lt_two_pow (Nat.lt_of_lt_of_le h (Nat.pow_le_pow_right Nat.two_pos hj))

/-- What the host reads of a register narrower than 32 bits: its bits, and zeros above. -/
theorem setWidth_reads {n : Nat} (v : BitVec n) (h : n ≤ 32) :
    (v.setWidth 32).extractLsb' 0 n = v ∧ ∀ j, n ≤ j → (v.setWidth 32).getLsbD j = false := by
  refine ⟨BitVec.eq_of_getLsbD_eq fun i hi => ?_, getLsbD_of_toNat_lt ?_⟩
  · simp [hi, Nat.lt_of_lt_of_le hi h]
  · rw [BitVec.toNat_setWidth]
    exact Nat.lt_of_le_of_lt (Nat.mod_le _ _) v.isLt

theorem status_extract (s : State) : s.status.extractLsb' 0 2 =
    (match s.run with | .idle => 0 | .running => 1 | .halted => 2 | .faulted => 3) := by
  unfold State.status
  cases s.run <;> cases s.tflag <;> rfl

theorem status_testBit (s : State) : s.status.getLsbD 2 = s.tflag := by
  unfold State.status
  cases s.run <;> cases s.tflag <;> rfl

theorem status_lt (s : State) : s.status.toNat < 2 ^ 3 := by
  unfold State.status
  cases s.run <;> cases s.tflag <;> decide

theorem irqEnable_bits (s : State) : s.irqEnable.getLsbD 0 = s.haltIe ∧ s.irqEnable.getLsbD 1 = s.faultIe := by
  unfold State.irqEnable
  cases s.haltIe <;> cases s.faultIe <;> decide

theorem irqEnable_lt (s : State) : s.irqEnable.toNat < 2 ^ 2 := by
  unfold State.irqEnable
  cases s.haltIe <;> cases s.faultIe <;> decide

/-- A write of `PC` outside RUNNING takes bits 15:0 (R38). -/
theorem writePc_of_not_running {s : State} (h : s.run ≠ .running) (v : BitVec 32) :
    s.writePc v = { s with pc := v.extractLsb' 0 16 } := by
  rw [State.writePc, if_neg h, State.setPc]
  congr 1

theorem writePc_of_running {s : State} (h : s.run = .running) (v : BitVec 32) : s.writePc v = s := if_pos h

/-- The fault registers read 0 where no fault is recorded (R39 to R41). -/
theorem faultRegisters_read_zero {s : State} (inv : s.Inv) (h : s.run ≠ .faulted) :
    s.hostReadReg 0x10 = some 0 ∧ s.hostReadReg 0x14 = some 0 ∧ s.hostReadReg 0x18 = some 0 := by
  obtain ⟨cause, pc, info⟩ := inv.noFault h
  simp [State.hostReadReg, cause, pc, info]

/-- Settles O58: a narrow register is read zero-extended, and only a write of `PC` outside RUNNING does anything. -/
theorem hostRegisters : Obligations.HostRegisters := by
  unfold Obligations.HostRegisters
  intro s v
  exact ⟨rfl, rfl, ⟨s.status, rfl, status_extract s, status_testBit s, getLsbD_of_toNat_lt (status_lt s)⟩, rfl,
    ⟨_, rfl, setWidth_reads s.pc (by decide)⟩,
    fun waiting => congrArg _ (writePc_of_not_running waiting v),
    fun running => congrArg _ (writePc_of_running running v), rfl,
    ⟨_, rfl, setWidth_reads s.faultCause (by decide)⟩, ⟨_, rfl, setWidth_reads s.faultPc (by decide)⟩, rfl,
    rfl, rfl, rfl, faultRegisters_read_zero⟩

theorem irq_iff (s : State) :
    s.irq = true ↔ (s.haltIe = true ∧ s.run = .halted) ∨ (s.faultIe = true ∧ s.run = .faulted) := by
  simp [State.irq]

/-- Settles O59: the two enables are bits 0 and 1, and the line is the rule's formula. -/
theorem interruptEnableAndLine : Obligations.InterruptEnableAndLine := by
  unfold Obligations.InterruptEnableAndLine
  refine ⟨fun s v => ⟨⟨s.irqEnable, rfl, ?_⟩, rfl, irq_iff s⟩, rfl⟩
  obtain ⟨haltIe, faultIe⟩ := irqEnable_bits s
  exact ⟨haltIe, faultIe, getLsbD_of_toNat_lt (irqEnable_lt s)⟩

/-! ### The memory windows -/

/-- Reading an IMEM word after a word is stored. -/
theorem State.imemWord_storeImem (s : State) (i : Nat) (w : BitVec 32) (x : Nat) :
    (s.storeImem i w).imemWord x = if x = i then w else s.imemWord x := by
  unfold State.imemWord State.storeImem
  simp only [Memory.lookup_store, List.length_singleton]
  by_cases h : x = i
  · simp [h]
  · rw [if_neg (by omega), if_neg h]

theorem hostWriteDmem_of_running {s : State} (h : s.run = .running) (a : Nat) (bytes : List (BitVec 8)) :
    s.hostWriteDmem a bytes = .next s := if_pos h

theorem hostWriteImem_of_running {s : State} (h : s.run = .running) (i : Nat) (w : BitVec 32) :
    s.hostWriteImem i w = .next s := if_pos h

section
variable {s : State} (waiting : s.run ≠ .running)
include waiting

theorem hostWriteDmem_of_not_running {a : Nat} {bytes : List (BitVec 8)} (fits : a + bytes.length ≤ s.sizes.dmemBytes) :
    s.hostWriteDmem a bytes = .next (s.storeDmem a bytes) := by
  rw [State.hostWriteDmem, if_neg waiting, if_pos fits]

theorem hostWriteImem_of_not_running {i : Nat} (fits : i < s.sizes.imemWords) (w : BitVec 32) :
    s.hostWriteImem i w = .next (s.storeImem i w) := by
  rw [State.hostWriteImem, if_neg waiting, if_pos fits]

theorem hostReadDmem_storeDmem (a : Nat) (bytes : List (BitVec 8)) {x : Nat} (hx : x < s.sizes.dmemBytes) (n : Nat) :
    (s.storeDmem a bytes).hostReadDmem n x =
      some (if a ≤ x ∧ x < a + bytes.length then bytes.getD (x - a) 0 else s.dmemByte x) := by
  rw [State.hostReadDmem, State.storeDmem_run, if_neg waiting, State.storeDmem_sizes, if_pos hx,
    State.dmemByte_storeDmem, List.getD_eq_getElem?_getD]

theorem hostReadImem_storeImem (i : Nat) (w : BitVec 32) {x : Nat} (hx : x < s.sizes.imemWords) (n : Nat) :
    (s.storeImem i w).hostReadImem n x = some (if x = i then w else s.imemWord x) := by
  rw [State.hostReadImem, State.storeImem_run, if_neg waiting, State.storeImem_sizes, if_pos hx,
    State.imemWord_storeImem]

end

/-- Settles O60: the step is the write through the window, and a later read is one of the memory after a store. -/
theorem hostWindows : Obligations.HostWindows := by
  unfold Obligations.HostWindows
  intro s rest
  refine ⟨fun a bytes pending running => ?_, fun i w pending running => ?_,
    fun a bytes pending waiting fits => ?_, fun i w pending waiting fits => ?_⟩
  · exact (step_of_hostAct pending nofun).trans
      (hostWriteDmem_of_running (s := { s with host := rest }) running a bytes)
  · exact (step_of_hostAct pending nofun).trans
      (hostWriteImem_of_running (s := { s with host := rest }) running i w)
  · exact ⟨_, (step_of_hostAct pending nofun).trans
      (hostWriteDmem_of_not_running (s := { s with host := rest }) waiting fits), rfl,
      fun n x hx => hostReadDmem_storeDmem (s := { s with host := rest }) waiting a bytes hx n⟩
  · exact ⟨_, (step_of_hostAct pending nofun).trans
      (hostWriteImem_of_not_running (s := { s with host := rest }) waiting fits w), rfl,
      fun n x hx => hostReadImem_storeImem (s := { s with host := rest }) waiting i w hx n⟩

end Sys2Proof.Machine
end

section
/-! PROOFS. Byte strings: the big-endian spelling of numbers and back (O40), and the pictures of values in DMEM. -/

namespace Sys2Proof

/-! ### Spelling and reading, one byte more -/

@[simp] theorem fromBe_append_singleton (bytes : List (BitVec 8)) (b : BitVec 8) :
    fromBe (bytes ++ [b]) = 256 * fromBe bytes + b.toNat := by
  simp [fromBe]

theorem beBytes_succ (n v : Nat) : beBytes (n + 1) v = beBytes n (v / 256) ++ [BitVec.ofNat 8 v] := by
  have digit : ∀ i ∈ List.range n, BitVec.ofNat 8 (v / 256 ^ (n + 1 - 1 - i)) =
      BitVec.ofNat 8 (v / 256 / 256 ^ (n - 1 - i)) := by
    intro i hi
    have shift : n + 1 - 1 - i = (n - 1 - i) + 1 := by
      have := List.mem_range.1 hi
      omega
    rw [shift, Nat.pow_succ', Nat.div_div_eq_div_mul]
  simp only [beBytes, List.range_succ, List.map_append, List.map_congr_left digit]
  simp

theorem beBytes_getElem? {n i : Nat} (v : Nat) (h : i < n) :
    (beBytes n v)[i]? = some (BitVec.ofNat 8 (v / 256 ^ (n - 1 - i))) := by
  simp [beBytes, h]

/-- Spelling keeps what `n` bytes can hold. -/
theorem fromBe_beBytes (n v : Nat) : fromBe (beBytes n v) = v % 256 ^ n := by
  induction n generalizing v with
  | zero => simp [beBytes, fromBe, Nat.mod_one]
  | succ n ih =>
    rw [beBytes_succ, fromBe_append_singleton, ih, Nat.pow_succ', Nat.mod_mul, BitVec.toNat_ofNat]
    omega

theorem beBytes_fromBe (bytes : List (BitVec 8)) : beBytes bytes.length (fromBe bytes) = bytes := by
  induction bytes using List.reverseRecOn with
  | nil => rfl
  | append_singleton bytes b ih =>
    have high : (256 * fromBe bytes + b.toNat) / 256 = fromBe bytes := by
      have := b.isLt
      omega
    have low : BitVec.ofNat 8 (256 * fromBe bytes + b.toNat) = b := by
      apply BitVec.eq_of_toNat_eq
      have := b.isLt
      rw [BitVec.toNat_ofNat]
      omega
    rw [List.length_append, List.length_singleton, beBytes_succ, fromBe_append_singleton, high, low, ih]

theorem fromBe_lt (bytes : List (BitVec 8)) : fromBe bytes < 256 ^ bytes.length := by
  induction bytes using List.reverseRecOn with
  | nil => decide
  | append_singleton bytes b ih =>
    have := b.isLt
    rw [fromBe_append_singleton, List.length_append, List.length_singleton, Nat.pow_succ]
    omega

/-- Settles O40: both round trips by induction on the number of bytes. -/
theorem bigEndianRoundTrip : Obligations.BigEndianRoundTrip := by
  unfold Obligations.BigEndianRoundTrip
  refine ⟨fun n v h => ⟨Machine.beBytes_length n v, ?_⟩, beBytes_fromBe, fun v i hi => ?_⟩
  · rw [fromBe_beBytes, Nat.mod_eq_of_lt h]
  · have base : 2 ^ (8 * (47 - i)) = 256 ^ (47 - i) := by rw [Nat.pow_mul]
    rw [beBytes_getElem? v hi, base]
    congr 1
    apply BitVec.eq_of_toNat_eq
    simp

end Sys2Proof

namespace Sys2Proof.Machine

/-! ### The memory form of a value is its flattening, spelled number by number (R64, R65) -/

theorem fp2Bytes_eq (x : Fp2) : fp2Bytes x = (flatFp2 x).flatMap (beBytes 48) := by
  simp [fp2Bytes, flatFp2, fpBytes]

theorem fp6Bytes_eq (x : Fp6) : fp6Bytes x = (flatFp6 x).flatMap (beBytes 48) := by
  simp only [fp6Bytes, flatFp6, fp2Bytes_eq, List.flatMap_append]

theorem fp12Bytes_eq (x : Fp12) : fp12Bytes x = (flatFp12 x).flatMap (beBytes 48) := by
  simp only [fp12Bytes, flatFp12, fp6Bytes_eq, List.flatMap_append]

/-- Byte `m` of numbers spelled one after the other; beyond them both sides are 0. -/
theorem getD_flatMap_beBytes (ns : List Nat) (m : Nat) :
    (ns.flatMap (beBytes 48)).getD m 0 = pictureByte ns m := by
  induction ns generalizing m with
  | nil => simp [pictureByte]
  | cons n ns ih =>
    rw [List.flatMap_cons]
    by_cases h : m < 48
    · have quotient : m / 48 = 0 := by omega
      have remainder : m % 48 = m := by omega
      rw [List.getD_append _ _ _ _ (by rwa [beBytes_length]), List.getD_eq_getElem?_getD, beBytes_getElem? n h]
      simp [pictureByte, quotient, remainder]
    · have quotient : m / 48 = (m - 48) / 48 + 1 := by omega
      have remainder : m % 48 = (m - 48) % 48 := by omega
      rw [List.getD_append_right _ _ _ _ (by rw [beBytes_length]; omega), beBytes_length, ih]
      simp [pictureByte, quotient, remainder]

/-! ### Reading a value's memory form gives the value back -/

theorem parseInteger_integerBytes (n : BitVec 384) : parseInteger (integerBytes n) = n := by
  apply BitVec.eq_of_toNat_eq
  rw [parseInteger, integerBytes, fromBe_beBytes, BitVec.toNat_ofNat]
  have := n.isLt
  omega

@[simp] theorem parseFp_fpBytes (addr : Nat) (v : Fp) : parseFp addr (fpBytes v) = .ok v := by
  have spelled : fromBe (fpBytes v) = v.val := by
    rw [fpBytes, fromBe_beBytes]
    exact Nat.mod_eq_of_lt (v.isLt.trans (by decide))
  simp only [parseFp, spelled, v.isLt, dite_true]

@[simp] theorem parseFp2_fp2Bytes (addr : Nat) (x : Fp2) : parseFp2 addr (fp2Bytes x) = .ok x := by
  simp [parseFp2, fp2Bytes, Except.bind]

@[simp] theorem parseFp6_fp6Bytes (addr : Nat) (x : Fp6) : parseFp6 addr (fp6Bytes x) = .ok x := by
  simp [parseFp6, fp6Bytes, Except.bind, List.drop_append, List.drop_of_length_le]

@[simp] theorem parseFp12_fp12Bytes (addr : Nat) (x : Fp12) : parseFp12 addr (fp12Bytes x) = .ok x := by
  simp [parseFp12, fp12Bytes, Except.bind]

end Sys2Proof.Machine
end

section
/-! PROOFS. Loads, stores and encodes: in range, beyond DMEM, and one after the other (O26, O27, O28, O41, O43). -/

namespace Sys2Proof.Machine

/-! ### Registers -/

theorem setReg_getElem_same {α : Type} {n : Nat} (file : Vector (VReg α) n) (i : Fin n) (v : α) :
    (setReg file i v)[i] = ⟨true, v⟩ := by
  rw [setReg_getElem, if_pos rfl]

theorem readReg_of_valid {α : Type} {n : Nat} (code : Nat) {file : Vector (VReg α) n} {i : Fin n}
    (h : file[i].valid = true) : readReg code file i = .ok file[i].val := if_pos h

/-! ### Consecutive bytes of DMEM -/

/-- The `n` bytes of DMEM from `a` up: what `memRead` answers in range. -/
def State.bytesAt (s : State) (a n : Nat) : List (BitVec 8) := (List.range n).map fun i => s.dmemByte (a + i)

@[simp] theorem State.bytesAt_length (s : State) (a n : Nat) : (s.bytesAt a n).length = n := by simp [State.bytesAt]

theorem State.memRead_of_fits {s : State} {a n : Nat} (fits : a + n ≤ s.sizes.dmemBytes) :
    s.memRead a n = .ok (s.bytesAt a n) :=
  (s.memRead_eq_ok a n _).2 ⟨fits, rfl⟩

theorem State.bytesAt_add (s : State) (a m n : Nat) :
    s.bytesAt a (m + n) = s.bytesAt a m ++ s.bytesAt (a + m) n := by
  simp [State.bytesAt, List.range_add, Nat.add_assoc]

theorem State.take_bytesAt (s : State) (a m n : Nat) : (s.bytesAt a (m + n)).take m = s.bytesAt a m := by
  rw [s.bytesAt_add, List.take_left' (s.bytesAt_length a m)]

theorem State.drop_bytesAt (s : State) (a m n : Nat) : (s.bytesAt a (m + n)).drop m = s.bytesAt (a + m) n := by
  rw [s.bytesAt_add, List.drop_left' (s.bytesAt_length a m)]

/-- Bytes just stored read back. -/
theorem State.bytesAt_storeDmem (s : State) (a : Nat) (bytes : List (BitVec 8)) :
    (s.storeDmem a bytes).bytesAt a bytes.length = bytes := by
  refine List.ext_getElem (State.bytesAt_length _ _ _) fun i _ hi => ?_
  simp [State.bytesAt, State.dmemByte_storeDmem, hi]

/-! ### Loads and stores, in range and beyond -/

section
variable {α : Type} {s : State} {ea n : Nat} {parse : List (BitVec 8) → Except Trap α} {write : α → State}

theorem load_of_ok {v : α} (fits : ea + n ≤ s.sizes.dmemBytes) (spelled : parse (s.bytesAt ea n) = .ok v) :
    load s ea n parse write = .next (write v).advance := by
  simp [load, State.memRead_of_fits fits, spelled, Except.bind, complete_ok]

theorem load_of_error {e : Trap} (fits : ea + n ≤ s.sizes.dmemBytes) (spelled : parse (s.bytesAt ea n) = .error e) :
    load s ea n parse write = .next (s.raise e) := by
  simp [load, State.memRead_of_fits fits, spelled, Except.bind, complete_error]

theorem load_beyond (beyond : s.sizes.dmemBytes < ea + n) :
    load s ea n parse write = .next (s.raise ⟨.dmemRange, ea⟩) := by
  simp [load, State.memRead, beyond, Except.bind, complete_error]

end

section
variable {α : Type} {s : State} {x : Except Trap α} {v : α} (source : x = .ok v) {ea n : Nat}
  {image : α → List (BitVec 8)} (width : (image v).length = n)
include source width

theorem store_of_fits (fits : ea + n ≤ s.sizes.dmemBytes) :
    store s x ea image = .next (s.storeDmem ea (image v)).advance := by
  have written := (s.memWrite_eq_ok ea (image v) _).2 ⟨width ▸ fits, rfl⟩
  simp [store, source, written, Except.bind, complete_ok]

theorem store_beyond (beyond : s.sizes.dmemBytes < ea + n) :
    store s x ea image = .next (s.raise ⟨.dmemRange, ea⟩) := by
  simp [store, source, State.memWrite, width, beyond, Except.bind, complete_error]

/-- A store whose bytes are `picture` writes just them. -/
theorem store_storesOnly {picture : Nat → BitVec 8} (fits : ea + n ≤ s.sizes.dmemBytes)
    (pictured : ∀ m, (image v).getD m 0 = picture m) :
    ∃ t, store s x ea image = .next t ∧ storesOnly s t ea n picture := by
  refine ⟨_, store_of_fits source width fits, rfl, fun y => ?_⟩
  rw [← pictured, List.getD_eq_getElem?_getD, ← width]
  exact s.dmemByte_storeDmem ea (image v) y

end

/-- A load of what a store has just written writes the value the stored bytes spell. -/
theorem load_of_stored {α : Type} {s : State} {ea n : Nat} {bytes : List (BitVec 8)}
    {parse : List (BitVec 8) → Except Trap α} {write : α → State} {v : α} (width : bytes.length = n)
    (fits : ea + n ≤ s.sizes.dmemBytes) (spelled : parse bytes = .ok v) :
    load (s.storeDmem ea bytes).advance ea n parse write = .next (write v).advance := by
  subst width
  exact load_of_ok fits ((congrArg parse (s.bytesAt_storeDmem ea bytes)).trans spelled)

/-! ### Groups of 48 bytes (R64, R65) -/

theorem State.group_eq (s : State) (ea j : Nat) : s.group ea j = fromBe (s.bytesAt (ea + 48 * j) 48) := rfl

theorem State.group_lt (s : State) (ea j : Nat) : s.group ea j < 256 ^ 48 := by
  have bound := fromBe_lt (s.bytesAt (ea + 48 * j) 48)
  rwa [State.bytesAt_length] at bound

theorem State.group_add (s : State) (ea m j : Nat) : s.group (ea + 48 * m) j = s.group ea (m + j) := by
  simp only [State.group_eq, Nat.mul_add, Nat.add_assoc]

/-- The first `n` groups from `ea` up. -/
def State.groups (s : State) (ea n : Nat) : List Nat := (List.range n).map (s.group ea)

theorem State.groups_add (s : State) (ea m n : Nat) :
    s.groups ea (m + n) = s.groups ea m ++ s.groups (ea + 48 * m) n := by
  simp [State.groups, List.range_add, State.group_add]

/-- `r` is what the `n` groups from `ea` up give: a value with the property if all are below `p`, else the fault of
the first that is not (R526). -/
structure ReadsGroups {α : Type} (s : State) (ea n : Nat) (r : Except Trap α) (P : α → Prop) : Prop where
  value : (∀ j < n, s.group ea j < Config.p) → ∃ x, r = .ok x ∧ P x
  firstBad : ∀ j < n, Config.p ≤ s.group ea j → (∀ i < j, s.group ea i < Config.p) →
    r = .error ⟨.fpRange, ea + 48 * j⟩

theorem readsGroups_ok {α : Type} {s : State} {ea : Nat} {x : α} {P : α → Prop} (h : P x) :
    ReadsGroups s ea 0 (.ok x) P :=
  ⟨fun _ => ⟨x, rfl, h⟩, fun _ hj => absurd hj (Nat.not_lt_zero _)⟩

/-- Some groups, then what the groups after them give. -/
theorem readsGroups_bind {α β : Type} {s : State} {ea m n : Nat} {r : Except Trap α} {g : α → Except Trap β}
    {P : α → Prop} {Q : β → Prop} (first : ReadsGroups s ea m r P)
    (rest : ∀ x, P x → ReadsGroups s (ea + 48 * m) n (g x) Q) : ReadsGroups s ea (m + n) (r.bind g) Q where
  value good := by
    obtain ⟨x, rfl, hx⟩ := first.value fun j hj => good j (by omega)
    exact (rest x hx).value fun j hj => (s.group_add ea m j).trans_lt (good (m + j) (by omega))
  firstBad j hj bad good := by
    by_cases h : j < m
    · rw [first.firstBad j h bad good]
      rfl
    · obtain ⟨i, rfl⟩ := Nat.exists_eq_add_of_le (Nat.le_of_not_lt h)
      obtain ⟨x, rfl, hx⟩ := first.value fun k hk => good k (by omega)
      rw [Nat.mul_add, ← Nat.add_assoc]
      exact (rest x hx).firstBad i (by omega) (bad.trans_eq (s.group_add ea m i).symm)
        fun k hk => (s.group_add ea m k).trans_lt (good (m + k) (by omega))

theorem parseFp_readsGroups (s : State) (ea : Nat) :
    ReadsGroups s ea 1 (parseFp ea (s.bytesAt ea 48)) fun x => x.val = s.group ea 0 where
  value good := ⟨⟨s.group ea 0, good 0 Nat.one_pos⟩, dif_pos (good 0 Nat.one_pos), rfl⟩
  firstBad j hj bad _ := by
    obtain rfl : j = 0 := by omega
    exact dif_neg (Nat.not_lt_of_le bad)

theorem parseFp2_readsGroups (s : State) (ea : Nat) :
    ReadsGroups s ea 2 (parseFp2 ea (s.bytesAt ea 96)) fun x => flatFp2 x = s.groups ea 2 := by
  rw [parseFp2, s.take_bytesAt ea 48 48, s.drop_bytesAt ea 48 48]
  refine readsGroups_bind (parseFp_readsGroups s ea) fun c0 h0 =>
    readsGroups_bind (parseFp_readsGroups s (ea + 48)) fun c1 h1 => readsGroups_ok ?_
  rw [flatFp2, h0, h1]
  rfl

theorem parseFp6_readsGroups (s : State) (ea : Nat) :
    ReadsGroups s ea 6 (parseFp6 ea (s.bytesAt ea 288)) fun x => flatFp6 x = s.groups ea 6 := by
  rw [parseFp6, s.take_bytesAt ea 96 192, s.drop_bytesAt ea 96 192, s.take_bytesAt (ea + 96) 96 96,
    s.drop_bytesAt ea 192 96]
  refine readsGroups_bind (parseFp2_readsGroups s ea) fun c0 h0 =>
    readsGroups_bind (parseFp2_readsGroups s (ea + 96)) fun c1 h1 =>
    readsGroups_bind (parseFp2_readsGroups s (ea + 192)) fun c2 h2 => readsGroups_ok ?_
  rw [flatFp6, h0, h1, h2, s.groups_add ea 4 2, s.groups_add ea 2 2]

theorem parseFp12_readsGroups (s : State) (ea : Nat) :
    ReadsGroups s ea 12 (parseFp12 ea (s.bytesAt ea 576)) fun x => flatFp12 x = s.groups ea 12 := by
  rw [parseFp12, s.take_bytesAt ea 288 288, s.drop_bytesAt ea 288 288]
  refine readsGroups_bind (parseFp6_readsGroups s ea) fun c0 h0 =>
    readsGroups_bind (parseFp6_readsGroups s (ea + 288)) fun c1 h1 => readsGroups_ok ?_
  rw [flatFp12, h0, h1, s.groups_add ea 6 6]

/-- A load in range whose bytes are read group by group: the write of the value they spell, or `FP_RANGE` at the
first group that is not below `p`. -/
theorem load_of_readsGroups {α : Type} {s : State} {ea m n : Nat} {parse : List (BitVec 8) → Except Trap α}
    {write : α → State} {P : α → Prop} (fits : ea + m ≤ s.sizes.dmemBytes)
    (reads : ReadsGroups s ea n (parse (s.bytesAt ea m)) P) :
    ((∀ j < n, s.group ea j < Config.p) → ∃ x, P x ∧ load s ea m parse write = .next (write x).advance) ∧
    (∀ j < n, Config.p ≤ s.group ea j → (∀ i < j, s.group ea i < Config.p) →
      load s ea m parse write = .next (s.faultedWith 5 (ea + 48 * j))) := by
  refine ⟨fun good => ?_, fun j hj bad good => load_of_error fits (reads.firstBad j hj bad good)⟩
  obtain ⟨x, spelled, hx⟩ := reads.value good
  exact ⟨x, hx, load_of_ok fits spelled⟩

/-! ### The statements -/

/-- Settles O26: the first group is the number the 48 bytes spell. -/
theorem integerAndFpLoads : Obligations.IntegerAndFpLoads := by
  unfold Obligations.IntegerAndFpLoads
  intro s b imm
  have address : s.ea b imm = (if b = 0 then 0 else s.a[b].toNat) + imm.toNat := by
    unfold State.ea State.readA
    split <;> rfl
  refine ⟨address, fun fits => ⟨fun a => load_of_ok fits rfl, s.group_lt _ 0, fun good a => ?_, fun bad a => ?_⟩⟩
  · have spelled : parseFp (s.ea b imm) (s.bytesAt (s.ea b imm) 48) = .ok (Fp.ofNat (s.group (s.ea b imm) 0)) := by
      obtain ⟨x, spelled, value⟩ := (parseFp_readsGroups s (s.ea b imm)).value fun j hj => by
        obtain rfl : j = 0 := by omega
        exact good
      rw [spelled]
      exact congrArg _ (Fin.ext (value.trans (Nat.mod_eq_of_lt good).symm))
    exact load_of_ok fits spelled
  · exact load_of_error fits ((parseFp_readsGroups s (s.ea b imm)).firstBad 0 Nat.one_pos bad nofun)

/-- Settles O27: the levels of the tower are read group by group, lowest address first. -/
theorem towerLoads : Obligations.TowerLoads := by
  unfold Obligations.TowerLoads
  intro s b imm
  exact ⟨fun _ fits => load_of_readsGroups fits (parseFp2_readsGroups s _),
    fun _ fits => load_of_readsGroups fits (parseFp6_readsGroups s _),
    fun _ fits => load_of_readsGroups fits (parseFp12_readsGroups s _)⟩

/-- Settles O28: the bytes of a value are its flattening spelled number by number; an encoding is its own bytes. -/
theorem stores : Obligations.Stores := by
  unfold Obligations.Stores
  intro s b imm
  have spelled {bytes : List (BitVec 8)} {ns : List Nat} (same : bytes = ns.flatMap (beBytes 48)) (m : Nat) :
      bytes.getD m 0 = pictureByte ns m := same ▸ getD_flatMap_beBytes ns m
  have single (n : Nat) : beBytes 48 n = [n].flatMap (beBytes 48) := by simp
  refine ⟨fun a n held fits => ?_, fun a x held fits => ?_, fun a x held fits => ?_, fun a x held fits => ?_,
    fun a x held fits => ?_, fun a P held fits => ?_, fun a P held fits => ?_⟩
  · exact store_storesOnly ((readReg_eq_ok 1 _ a _).2 held) (integerBytes_length n) fits (spelled (single _))
  · exact store_storesOnly ((readReg_eq_ok 2 _ a _).2 held) (fpBytes_length x) fits (spelled (single _))
  · exact store_storesOnly ((readReg_eq_ok 3 _ a _).2 held) (fp2Bytes_length x) fits (spelled (fp2Bytes_eq x))
  · exact store_storesOnly ((readReg_eq_ok 4 _ a _).2 held) (fp6Bytes_length x) fits (spelled (fp6Bytes_eq x))
  · exact store_storesOnly ((readReg_eq_ok 5 _ a _).2 held) (fp12Bytes_length x) fits (spelled (fp12Bytes_eq x))
  · exact store_storesOnly ((readReg_eq_ok 6 _ a _).2 held) (Codec.encodeG1_length P) fits fun _ => rfl
  · exact store_storesOnly ((readReg_eq_ok 7 _ a _).2 held) (Codec.encodeG2_length P) fits fun _ => rfl

/-- Settles O41: the stored bytes are the memory form of the value, which spells it. -/
theorem loadAfterStore : Obligations.LoadAfterStore := by
  unfold Obligations.LoadAfterStore
  intro s b imm
  refine ⟨fun a c n held fits => ?_, fun a c x held fits => ?_, fun a c x held fits => ?_,
    fun a c x held fits => ?_, fun a c x held fits => ?_⟩
  · have source := (readReg_eq_ok 1 _ a _).2 held
    exact ⟨_, _, store_of_fits source (integerBytes_length n) fits,
      load_of_stored (integerBytes_length n) fits (congrArg _ (parseInteger_integerBytes n)), setReg_getElem_same _ _ _⟩
  · have source := (readReg_eq_ok 2 _ a _).2 held
    exact ⟨_, _, store_of_fits source (fpBytes_length x) fits,
      load_of_stored (fpBytes_length x) fits (parseFp_fpBytes _ x), setReg_getElem_same _ _ _⟩
  · have source := (readReg_eq_ok 3 _ a _).2 held
    exact ⟨_, _, store_of_fits source (fp2Bytes_length x) fits,
      load_of_stored (fp2Bytes_length x) fits (parseFp2_fp2Bytes _ x), setReg_getElem_same _ _ _⟩
  · have source := (readReg_eq_ok 4 _ a _).2 held
    exact ⟨_, _, store_of_fits source (fp6Bytes_length x) fits,
      load_of_stored (fp6Bytes_length x) fits (parseFp6_fp6Bytes _ x), setReg_getElem_same _ _ _⟩
  · have source := (readReg_eq_ok 5 _ a _).2 held
    exact ⟨_, _, store_of_fits source (fp12Bytes_length x) fits,
      load_of_stored (fp12Bytes_length x) fits (parseFp12_fp12Bytes _ x), setReg_getElem_same _ _ _⟩

/-- Settles O43: the range check comes before the parse of a load, and after the read of a store's source. -/
theorem accessBeyondDmemFaults : Obligations.AccessBeyondDmemFaults := by
  unfold Obligations.AccessBeyondDmemFaults
  intro s b imm
  refine ⟨fun beyond => ⟨fun a => load_beyond beyond, fun a => load_beyond beyond, fun a valid => ?_,
      fun a valid => ?_, fun a valid => ?_⟩,
    fun beyond => ⟨fun a => load_beyond beyond, fun a valid => ?_, fun a valid => ?_⟩,
    fun beyond => ⟨fun a => load_beyond beyond, fun a valid => ?_⟩,
    fun beyond => ⟨fun a => load_beyond beyond, fun a valid => ?_⟩⟩
  · exact store_beyond (readReg_of_valid 1 valid) (integerBytes_length _) beyond
  · exact store_beyond (readReg_of_valid 2 valid) (fpBytes_length _) beyond
  · exact store_beyond (readReg_of_valid 6 valid) (Codec.encodeG1_length _) beyond
  · exact store_beyond (readReg_of_valid 3 valid) (fp2Bytes_length _) beyond
  · exact store_beyond (readReg_of_valid 7 valid) (Codec.encodeG2_length _) beyond
  · exact store_beyond (readReg_of_valid 4 valid) (fp6Bytes_length _) beyond
  · exact store_beyond (readReg_of_valid 5 valid) (fp12Bytes_length _) beyond

end Sys2Proof.Machine
end

section
/-! PROOFS. What no instruction reaches: DMEM outside the range of a store, and the host's side (O50, O51). -/

namespace Sys2Proof.Machine

/-! ### The host's side -/

/-- Settles O51: a fault writes the fault registers and STATE, and an instruction that completes keeps the host's
side, `HALT` writing STATE. -/
theorem programsCannotReachTheHostSide : Obligations.ProgramsCannotReachTheHostSide := by
  unfold Obligations.ProgramsCannotReachTheHostSide
  intro i s t h
  by_cases hi : i = .halt
  · subst hi
    obtain rfl := exec_halt_next h
    exact ⟨rfl, rfl, rfl, rfl, rfl, rfl, fun _ => ⟨rfl, rfl, rfl, .inr ⟨rfl, rfl⟩⟩⟩
  · rcases exec_faultsOrFramed hi h with ⟨e, rfl⟩ | frame
    · exact ⟨rfl, rfl, rfl, rfl, rfl, rfl, fun completed => absurd rfl completed⟩
    · exact ⟨frame.imem, frame.haltIe, frame.faultIe, frame.sizes, frame.host, frame.epoch,
        fun _ => ⟨frame.faultCause, frame.faultPc, frame.faultInfo, .inl frame.run⟩⟩

/-- The power-on contents of the memories stay those of the last hard reset (U2, U3). -/
theorem exec_keeps_epoch {i : Instr} {s t : State} (h : exec i s = .next t) : t.epoch = s.epoch := by
  obtain ⟨-, -, -, -, -, epoch, -⟩ := programsCannotReachTheHostSide i s t h
  exact epoch

/-! ### DMEM -/

/-- Every instruction but the stores and the encodes faults in the state it found, or leaves DMEM as it was: one arm
for each number of reads and checks before a write. -/
theorem exec_faultsOr_sameDmem {i : Instr} {s t : State} (storesNothing : storeRange s i = none)
    (h : exec i s = .next t) : FaultsOr (fun u => u.dmem = s.dmem) s t := by
  cases i with
  | kSt | fpSt | fp2St | fp6St | fp12St | g1Enc | g2Enc => cases storesNothing
  | trap => exact .inl ⟨_, (Host.Outcome.next.inj h).symm⟩
  | j | bt | bf | banz => exact .inr (branch_next s t _ _ h ▸ rfl)
  | jr => exact .inr (Host.Outcome.next.inj h ▸ rfl)
  | jal => exact .inr (Host.Outcome.next.inj h ▸ State.setA_dmem _ _ _)
  | aLi | aAddi => exact complete_ok_faultsOr h (State.setA_dmem _ _ _)
  | g1Dec | g2Dec => exact decodePoint_faultsOr h fun _ => rfl
  -- none
  | nop | halt | kLi | fpLi | fp2Li | fp6Li | fp12Li | g1Zero | g2Zero => exact complete_ok_faultsOr h rfl
  -- one read
  | kMov | kModr | fpMov | fpNeg | fpSqr | fpCube | fpHalve | fp2Mov | fp2Neg | fp2Sqr | fp2Cube | fp2Halve | fp2Get
  | fp6Mov | fp6Neg | fp6Sqr | fp6Cube | fp6Halve | fp6Get | fp12Mov | fp12Neg | fp12Sqr | fp12Cube | fp12Halve
  | fp12Get | fp12Powp | fp12Conj | g1Mov | g1Dbl | g1Neg | g1Clrcof | g1Get | g2Mov | g2Dbl | g2Neg | g2Clrcof
  | g2Get | g2Psi | g2Psi2 | g1Toaff | g2Toaff | fpIszero | fpIsone | fp2Iszero | fp2Isone | fp6Iszero | fp6Isone
  | fp12Iszero | fp12Isone | g1Iszero | g1Isvalid | g2Iszero | g2Isvalid =>
    exact complete_faultsOr h (yields_bind fun _ => yields_ok rfl)
  -- two reads or checks
  | kLd | fpLd | fp2Ld | fp6Ld | fp12Ld | fpAdd | fpSub | fpMul | fpScale | fpPow | fp2Add | fp2Sub | fp2Mul | fp2Scale
  | fp2Pow | fp2Pack | fp6Add | fp6Sub | fp6Mul | fp6Scale | fp6Pow | fp12Add | fp12Sub | fp12Mul | fp12Scale
  | fp12Pow | fp12Pack | g1Add | g1Scale | g1Fromaff | g2Add | g2Scale | g2Fromaff | fpInv | fpSqrt | fp2Inv | fp2Sqrt
  | fp6Inv | fp12Inv | finalExp | fpEq | fp2Eq | fp6Eq | fp12Eq | g1Eq | g2Eq | finalVerify =>
    exact complete_faultsOr h (yields_bind fun _ => yields_bind fun _ => yields_ok rfl)
  -- three
  | fp6Pack | g1Pack | g2Pack | fpDiv | fp2Div | fp6Div | fp12Div | miller =>
    exact complete_faultsOr h (yields_bind fun _ => yields_bind fun _ => yields_bind fun _ => yields_ok rfl)
  -- the cyclotomic operations, which count their draws (U1, log 4)
  | fp12Cycsqr =>
    refine complete_faultsOr h (yields_bind fun _ => yields_ok ?_)
    dsimp only
    split_ifs <;> rfl
  | fp12Cycpow =>
    refine complete_faultsOr h (yields_bind fun _ => yields_bind fun _ => yields_ok ?_)
    dsimp only
    split_ifs <;> rfl

/-- A store leaves every byte outside its width as it was, whether it completes or faults. -/
theorem store_outside {α : Type} {s t : State} {x : Except Trap α} {ea n a : Nat} {image : α → List (BitVec 8)}
    (width : ∀ v, (image v).length = n) (h : store s x ea image = .next t) (outside : a < ea ∨ ea + n ≤ a) :
    t.dmemByte a = s.dmemByte a := by
  rcases store_next s t x ea image h with ⟨v, -, -, rfl⟩ | ⟨v, -, -, rfl⟩ | ⟨e, -, rfl⟩
  · refine (s.dmemByte_storeDmem ea (image v) a).trans (if_neg fun inside => ?_)
    have := width v
    omega
  · rfl
  · rfl

/-- An instruction that stores leaves every byte outside its range as it was. -/
theorem exec_outside_storeRange {i : Instr} {s t : State} {ea n a : Nat} (range : storeRange s i = some (ea, n))
    (h : exec i s = .next t) (outside : a < ea ∨ ea + n ≤ a) : t.dmemByte a = s.dmemByte a := by
  cases i <;> cases range
  case kSt => exact store_outside integerBytes_length h outside
  case fpSt => exact store_outside fpBytes_length h outside
  case fp2St => exact store_outside fp2Bytes_length h outside
  case fp6St => exact store_outside fp6Bytes_length h outside
  case fp12St => exact store_outside fp12Bytes_length h outside
  case g1Enc => exact store_outside Codec.encodeG1_length h outside
  case g2Enc => exact store_outside Codec.encodeG2_length h outside

/-- Settles O50: an instruction with a range is a store, and one without leaves DMEM as it was. -/
theorem onlyStoredBytesChange : Obligations.OnlyStoredBytesChange := by
  unfold Obligations.OnlyStoredBytesChange
  intro i s t x h outside
  cases range : storeRange s i with
  | some access => exact exec_outside_storeRange range h (outside access.1 access.2 range)
  | none =>
    have sameDmem : t.dmem = s.dmem := by
      rcases exec_faultsOr_sameDmem range h with ⟨e, rfl⟩ | same
      · rfl
      · exact same
    rw [State.dmemByte, State.dmemByte, sameDmem, exec_keeps_epoch h]

end Sys2Proof.Machine
end

section
/-! PROOFS. Encoding and decoding: what a row of the opcode table keeps of a word's fields, the two round trips (O1,
O2), the legal words by mask and match (O3), and words written out (O4). -/

namespace Sys2Proof

/-! ### The field written back for a field read -/

/-- What the encoder writes for a register field that was read under this use. -/
def Use.kept : Use → BitVec 4 → BitVec 4
  | .zero, _ => 0
  | .low8, x => field8 (reg8 x)
  | .any, x => field16 (reg16 x)

theorem Use.kept_any (x : BitVec 4) : Use.any.kept x = x := field16_reg16 x

theorem Use.ok_kept (u : Use) (x : BitVec 4) : u.ok (u.kept x) = true := by
  cases u with
  | zero | any => rfl
  | low8 => revert x; decide

theorem Use.kept_of_ok (u : Use) (x : BitVec 4) (ok : u.ok x = true) : u.kept x = x := by
  cases u with
  | zero => exact (eq_of_beq ok).symm
  | low8 => exact field8_reg8 x ok
  | any => exact field16_reg16 x

/-- Comparing a field under its mask is checking its use. -/
theorem Use.ok_iff_mask (u : Use) (x : BitVec 4) : u.ok x = true ↔ x &&& u.mask = 0 := by
  cases u with
  | zero | low8 | any => revert x; decide

/-! ### The fields of formats I and D -/

@[simp] theorem fieldsI_a (op : BitVec 8) (a b : BitVec 4) (imm : BitVec 16) : (fieldsI op a b imm).a = a := rfl
@[simp] theorem fieldsI_b (op : BitVec 8) (a b : BitVec 4) (imm : BitVec 16) : (fieldsI op a b imm).b = b := rfl
@[simp] theorem fieldsD_a (op : BitVec 8) (a b c : BitVec 4) (imm : BitVec 12) : (fieldsD op a b c imm).a = a := rfl
@[simp] theorem fieldsD_b (op : BitVec 8) (a b c : BitVec 4) (imm : BitVec 12) : (fieldsD op a b c imm).b = b := rfl
@[simp] theorem fieldsD_c (op : BitVec 8) (a b c : BitVec 4) (imm : BitVec 12) : (fieldsD op a b c imm).c = c := rfl

theorem fieldsI_imm16_of (f : Fields) (op : BitVec 8) (a b : BitVec 4) :
    fieldsI op a b f.imm16 = { f with op := op, a := a, b := b } := by
  have c : f.imm16.extractLsb' 12 4 = f.c :=
    (BitVec.extractLsb'_append_eq_of_le (by decide)).trans BitVec.extractLsb'_append_eq_left
  have d : f.imm16.extractLsb' 8 4 = f.d :=
    (BitVec.extractLsb'_append_eq_of_le (by decide)).trans BitVec.extractLsb'_append_eq_right
  have fn : f.imm16.extractLsb' 0 8 = f.fn := BitVec.extractLsb'_append_eq_right
  rw [fieldsI, c, d, fn]

theorem fieldsD_imm12_of (f : Fields) (op : BitVec 8) (a b c : BitVec 4) :
    fieldsD op a b c f.imm12 = { f with op := op, a := a, b := b, c := c } := by
  have d : f.imm12.extractLsb' 8 4 = f.d := BitVec.extractLsb'_append_eq_left
  have fn : f.imm12.extractLsb' 0 8 = f.fn := BitVec.extractLsb'_append_eq_right
  rw [fieldsD, d, fn]

/-! ### A row reads an instruction that is written back as the fields it keeps -/

/-- The fields that the encoder writes for the instruction a row reads from `f`. -/
def Row.kept (r : Row) (f : Fields) : Fields :=
  { op := BitVec.ofNat 8 r.opcode, a := r.a.kept f.a, b := r.b.kept f.b, c := r.c.kept f.c, d := r.d.kept f.d,
    fn := if r.fnFree = 0 then 0 else f.fn }

theorem Row.kept_of_fixedOk {r : Row} {f : Fields} (opcode : r.opcode = f.op.toNat) (fixed : r.fixedOk f = true) :
    r.kept f = f := by
  simp only [Row.fixedOk, Bool.and_eq_true, decide_eq_true_eq] at fixed
  obtain ⟨⟨⟨⟨a, b⟩, c⟩, d⟩, fn⟩ := fixed
  have sameFn : (if r.fnFree = 0 then 0 else f.fn) = f.fn := by
    split_ifs with free
    · rw [free] at fn
      exact BitVec.eq_of_toNat_eq (Nat.lt_one_iff.1 fn).symm
    · rfl
  simp only [Row.kept, opcode, BitVec.ofNat_toNat, BitVec.setWidth_eq, r.a.kept_of_ok _ a, r.b.kept_of_ok _ b,
    r.c.kept_of_ok _ c, r.d.kept_of_ok _ d, sameFn]

theorem Row.fixedOk_kept {r : Row} {f : Fields} (fn : (r.kept f).fn.toNat < 2 ^ r.fnFree) :
    r.fixedOk (r.kept f) = true := by
  simp only [Row.fixedOk, fn, decide_true, Bool.and_true, Bool.and_eq_true]
  exact ⟨⟨⟨r.a.ok_kept _, r.b.ok_kept _⟩, r.c.ok_kept _⟩, r.d.ok_kept _⟩

/-- The encoder and the well-formedness check agree with the row: what it reads from any fields is written back as
the fields it keeps, and is well-formed when its index is within the row's maximum. -/
def Row.Faithful (r : Row) : Prop :=
  ∀ f, encodeFields (r.build f) = r.kept f ∧ (r.build f).wf = decide ((r.kept f).fn.toNat ≤ r.fnMax)

/-! What `Row.Faithful` says of a row of each format (R91 to R94), in terms of the encoder's own formats. -/

section
variable {opcode : Nat} {a b c d : Use} {build : Fields → Instr}

theorem rowR_faithful : (rowR opcode a b c d build).Faithful ↔ ∀ f, encodeFields (build f) =
    fieldsR (BitVec.ofNat 8 opcode) (a.kept f.a) (b.kept f.b) (c.kept f.c) (d.kept f.d) 0 ∧
    (build f).wf = true := Iff.rfl

theorem rowN_faithful {free max : Nat} [NeZero free] :
    (rowN opcode a b free max build).Faithful ↔ ∀ f, encodeFields (build f) =
      fieldsR (BitVec.ofNat 8 opcode) (a.kept f.a) (b.kept f.b) 0 0 f.fn ∧
      (build f).wf = decide (f.fn.toNat ≤ max) := by
  simp [Row.Faithful, Row.kept, rowN, NeZero.ne free, fieldsR, Use.kept]

theorem rowI_faithful : (rowI opcode a b build).Faithful ↔ ∀ f, encodeFields (build f) =
    fieldsI (BitVec.ofNat 8 opcode) (a.kept f.a) (b.kept f.b) f.imm16 ∧ (build f).wf = true := by
  have fits (f : Fields) : f.fn.toNat ≤ 255 := Nat.le_of_lt_succ f.fn.isLt
  simp [Row.Faithful, Row.kept, rowI, fieldsI_imm16_of, Use.kept_any, fits]

theorem rowD_faithful : (rowD opcode a b c build).Faithful ↔ ∀ f, encodeFields (build f) =
    fieldsD (BitVec.ofNat 8 opcode) (a.kept f.a) (b.kept f.b) (c.kept f.c) f.imm12 ∧ (build f).wf = true := by
  have fits (f : Fields) : f.fn.toNat ≤ 255 := Nat.le_of_lt_succ f.fn.isLt
  simp [Row.Faithful, Row.kept, rowD, fieldsD_imm12_of, Use.kept_any, fits]

end

/-- The encoder agrees with every row of R106: nothing an instruction says is lost, and its index is checked. -/
theorem opcodeTable_faithful : ∀ r ∈ opcodeTable, r.Faithful := by
  simp only [opcodeTable, opcodeRows_control, opcodeRows_integer, opcodeRows_fp, opcodeRows_fp2, opcodeRows_fp6,
    opcodeRows_fp12, opcodeRows_g1, opcodeRows_g2, opcodeRows_pairing, List.forall_mem_append, List.forall_mem_cons,
    List.not_mem_nil, false_implies, implies_true, and_true, rowR_faithful, rowN_faithful, rowI_faithful, rowD_faithful]
  and_intros
  all_goals exact fun _ => ⟨rfl, rfl⟩

/-! ### The row of an opcode byte -/

theorem opcodeTable_bounds : ∀ r ∈ opcodeTable, r.opcode < 2 ^ 8 ∧ r.fnFree ≤ 8 ∧ r.fnMax < 2 ^ r.fnFree := by
  decide +kernel

theorem opcodeTable_opcodes_nodup : (opcodeTable.map Row.opcode).Nodup := by
  decide +kernel

/-- The row of an opcode byte is the one row that has it. -/
theorem find?_opcode_iff (n : Nat) (r : Row) :
    opcodeTable.find? (fun r => r.opcode == n) = some r ↔ r ∈ opcodeTable ∧ r.opcode = n := by
  constructor
  · intro found
    exact ⟨List.mem_of_find?_eq_some found, eq_of_beq (List.find?_some (p := fun r : Row => r.opcode == n) found)⟩
  · rintro ⟨row, rfl⟩
    have isSome : (opcodeTable.find? fun q => q.opcode == r.opcode).isSome :=
      List.find?_isSome.2 ⟨r, row, beq_self_eq_true _⟩
    obtain ⟨q, found⟩ := Option.isSome_iff_exists.1 isSome
    have same : q = r := List.inj_on_of_nodup_map opcodeTable_opcodes_nodup (List.mem_of_find?_eq_some found) row
      (eq_of_beq (List.find?_some (p := fun q : Row => q.opcode == r.opcode) found))
    rw [found, same]

/-- Decoding by the rows that agree with the word, in place of the search for one. -/
theorem decode_eq_ok_iff_row (w : BitVec 32) (i : Instr) :
    decode w = .ok i ↔ ∃ r ∈ opcodeTable, r.opcode = (Fields.ofWord w).op.toNat ∧
      r.fixedOk (Fields.ofWord w) = true ∧ (Fields.ofWord w).fn.toNat ≤ r.fnMax ∧
      r.build (Fields.ofWord w) = i := by
  simp only [decode_eq_ok, find?_opcode_iff, and_assoc]

/-- Every instruction has a row, and the row reads it back from its fields. One argument for all: the search by its
opcode byte computes, and what the encoder spells of a register or an immediate is read back as it was. -/
theorem exists_row_build (i : Instr) : ∃ r ∈ opcodeTable, r.build (encodeFields i) = i := by
  have found : ∃ r, opcodeTable.find? (fun r => r.opcode == (encodeFields i).op.toNat) = some r ∧
      r.build (encodeFields i) = i := by
    cases i
    all_goals exact ⟨_, rfl, by simp [rowR, rowI, rowD, rowN, encodeFields, fieldsR]⟩
  obtain ⟨r, found, built⟩ := found
  exact ⟨r, List.mem_of_find?_eq_some found, built⟩

/-! ### The round trips -/

/-- Settles O1: the fields of an instruction are those its row keeps, so the row accepts them and reads it back. -/
theorem decodeOfEncode : Obligations.DecodeOfEncode := by
  unfold Obligations.DecodeOfEncode
  intro i legal
  obtain ⟨r, row, built⟩ := exists_row_build i
  obtain ⟨encoded, wf⟩ := opcodeTable_faithful r row (encodeFields i)
  obtain ⟨byte, -, index⟩ := opcodeTable_bounds r row
  rw [built] at encoded wf
  rw [← encoded, legal] at wf
  have max : (encodeFields i).fn.toNat ≤ r.fnMax := of_decide_eq_true wf.symm
  have opcode : r.opcode = (encodeFields i).op.toNat := by
    rw [encoded, Row.kept, BitVec.toNat_ofNat, Nat.mod_eq_of_lt byte]
  have fixed : r.fixedOk (encodeFields i) = true := by
    rw [encoded] at max ⊢
    exact r.fixedOk_kept (Nat.lt_of_le_of_lt max index)
  rw [decode_eq_ok_iff_row, encode, Fields.ofWord_toWord]
  exact ⟨r, row, opcode, fixed, max, built⟩

/-- Settles O2: the row keeps all the fields of a word it accepts. -/
theorem encodeOfDecode : Obligations.EncodeOfDecode := by
  unfold Obligations.EncodeOfDecode
  intro w i decoded
  obtain ⟨r, row, opcode, fixed, max, rfl⟩ := (decode_eq_ok_iff_row w i).1 decoded
  obtain ⟨encoded, wf⟩ := opcodeTable_faithful r row (Fields.ofWord w)
  rw [Row.kept_of_fixedOk opcode fixed] at encoded wf
  exact ⟨wf.trans (decide_eq_true max), by rw [encode, encoded, Fields.toWord_ofWord]⟩

/-! ### Mask and match -/

theorem Fields.ofWord_injective : Function.Injective Fields.ofWord :=
  Function.LeftInverse.injective Fields.toWord_ofWord

theorem Fields.ofWord_and (v w : BitVec 32) : Fields.ofWord (v &&& w) =
    { op := (Fields.ofWord v).op &&& (Fields.ofWord w).op, a := (Fields.ofWord v).a &&& (Fields.ofWord w).a,
      b := (Fields.ofWord v).b &&& (Fields.ofWord w).b, c := (Fields.ofWord v).c &&& (Fields.ofWord w).c,
      d := (Fields.ofWord v).d &&& (Fields.ofWord w).d, fn := (Fields.ofWord v).fn &&& (Fields.ofWord w).fn } := by
  simp only [Fields.ofWord, BitVec.extractLsb'_and]

/-- The match of R102: the opcode byte, and zero below it. -/
theorem Fields.toWord_opcode_only : ∀ n < 2 ^ 8,
    Fields.toWord { op := BitVec.ofNat 8 n, a := 0, b := 0, c := 0, d := 0, fn := 0 } =
      BitVec.ofNat 32 (n * 2 ^ 24) := by
  decide +kernel

/-- The mask of `FN` compares all but its free low bits. -/
theorem and_fnMask_eq_zero_iff : ∀ free ≤ 8, ∀ x : BitVec 8,
    x &&& BitVec.ofNat 8 (256 - 2 ^ free) = 0 ↔ x.toNat < 2 ^ free := by
  decide +kernel

/-- R102's comparison is the check of the opcode byte and of the fields' uses. -/
theorem Row.and_mask_eq_match_iff {r : Row} (byte : r.opcode < 2 ^ 8) (bits : r.fnFree ≤ 8) (w : BitVec 32) :
    w &&& r.mask = BitVec.ofNat 32 (r.opcode * 2 ^ 24) ↔
      r.opcode = (Fields.ofWord w).op.toNat ∧ r.fixedOk (Fields.ofWord w) = true := by
  have op : (Fields.ofWord w).op &&& 0xFF = BitVec.ofNat 8 r.opcode ↔ r.opcode = (Fields.ofWord w).op.toNat := by
    have all : (Fields.ofWord w).op &&& 0xFF = (Fields.ofWord w).op := BitVec.and_allOnes
    rw [all, BitVec.toNat_eq, BitVec.toNat_ofNat, Nat.mod_eq_of_lt byte, eq_comm]
  rw [← Fields.ofWord_injective.eq_iff, Fields.ofWord_and, ← Fields.toWord_opcode_only _ byte, Row.mask,
    Fields.ofWord_toWord, Fields.ofWord_toWord, Fields.mk.injEq, op, and_fnMask_eq_zero_iff _ bits]
  simp only [← Use.ok_iff_mask, Row.fixedOk, Bool.and_eq_true, decide_eq_true_eq, and_assoc]

/-- Settles O3. -/
theorem decodeAcceptsTableRows : Obligations.DecodeAcceptsTableRows := by
  unfold Obligations.DecodeAcceptsTableRows
  intro w
  have accepts (r : Row) (row : r ∈ opcodeTable) : w &&& r.mask = BitVec.ofNat 32 (r.opcode * 2 ^ 24) ↔
      r.opcode = (Fields.ofWord w).op.toNat ∧ r.fixedOk (Fields.ofWord w) = true := by
    obtain ⟨byte, bits, -⟩ := opcodeTable_bounds r row
    exact r.and_mask_eq_match_iff byte bits w
  constructor
  · rintro ⟨i, decoded⟩
    obtain ⟨r, row, opcode, fixed, max, -⟩ := (decode_eq_ok_iff_row w i).1 decoded
    exact ⟨r, row, (accepts r row).2 ⟨opcode, fixed⟩, max⟩
  · rintro ⟨r, row, agrees, max⟩
    obtain ⟨opcode, fixed⟩ := (accepts r row).1 agrees
    exact ⟨_, (decode_eq_ok_iff_row w _).2 ⟨r, row, opcode, fixed, max, rfl⟩⟩

/-! ### Words written out -/

/-- Settles O4: the legal words are those of their instructions, and the search of the table refuses the others. -/
theorem decodeOfWrittenWords : Obligations.DecodeOfWrittenWords := by
  unfold Obligations.DecodeOfWrittenWords
  exact ⟨decodeOfEncode .halt rfl, decodeOfEncode (.banz 2 0xFFFC) rfl, decodeOfEncode (.kLd 1 3 0x40) rfl,
    decodeOfEncode (.fpMul 3 1 2) rfl, decodeOfEncode (.fp2Get 3 5 1) rfl, decodeOfEncode (.fp6Get 1 2 2) rfl,
    decodeOfEncode (.fp12Powp 1 2 11) rfl, decodeOfEncode (.g1Toaff 3 1 4) rfl,
    decodeOfEncode (.g1Dec 1 0 1 0x100) rfl, decodeOfEncode (.g2Clrcof 2 1) rfl, decodeOfEncode (.miller 0 1 1) rfl,
    rfl, rfl, rfl⟩

end Sys2Proof
end

section
/-! PROOFS. The sequencer: fetching and decoding (O5, O6), what each control, address-register and integer instruction
does (O8, O9), and where `pc` goes (O52). -/

namespace Sys2Proof.Machine

/-! ### The fetch and what the step makes of it (R120) -/

section
variable {s : State}

theorem fetch_of_lt (within : s.pc.toNat < s.sizes.imemWords) : s.fetch = .ok (s.imemWord s.pc.toNat) :=
  if_neg (Nat.not_le_of_lt within)

theorem fetch_of_le (beyond : s.sizes.imemWords ≤ s.pc.toNat) : s.fetch = .error ⟨.ifetch, s.pc.toNat⟩ :=
  if_pos beyond

theorem fetchInstr_of_beyond (beyond : s.sizes.imemWords ≤ s.pc.toNat) :
    s.fetchInstr = .error ⟨.ifetch, s.pc.toNat⟩ := by
  rw [State.fetchInstr, fetch_of_le beyond]

theorem fetchInstr_of_decode_ok {i : Instr} (within : s.pc.toNat < s.sizes.imemWords)
    (decoded : decode (s.imemWord s.pc.toNat) = .ok i) : s.fetchInstr = .ok i := by
  simp only [State.fetchInstr, fetch_of_lt within, decoded]

theorem fetchInstr_of_decode_error {e : Illegal} (within : s.pc.toNat < s.sizes.imemWords)
    (decoded : decode (s.imemWord s.pc.toNat) = .error e) :
    s.fetchInstr = .error ⟨.illegal, (s.imemWord s.pc.toNat).toNat⟩ := by
  simp only [State.fetchInstr, fetch_of_lt within, decoded]

variable (running : s.run = .running)
include running

theorem sequencerStep_of_fetchInstr_ok {i : Instr} (fetched : s.fetchInstr = .ok i) :
    s.sequencerStep = exec i s := by
  simp only [State.sequencerStep, running, fetched]

theorem sequencerStep_of_fetchInstr_error {e : Trap} (fetched : s.fetchInstr = .error e) :
    s.sequencerStep = .next (s.raise e) := by
  simp only [State.sequencerStep, running, fetched]

/-- With nothing pending, or at the host's turn, the step runs what is fetched; no fetch depends on what is pending
(log 6). -/
theorem step_of_fetchInstr_ok {i : Instr} (fetched : s.fetchInstr = .ok i) :
    (s.host = [] → step s = exec i s) ∧
      ∀ rest, s.host = .turn :: rest → step s = exec i { s with host := rest } :=
  ⟨fun nothing => (step_of_nothing_pending nothing).trans (sequencerStep_of_fetchInstr_ok running fetched),
    fun rest turn => (step_of_turn turn).trans
      (sequencerStep_of_fetchInstr_ok (s := { s with host := rest }) running fetched)⟩

/-- With nothing pending, or at the host's turn, the step takes the fault of the fetch. -/
theorem step_of_fetchInstr_error {e : Trap} (fetched : s.fetchInstr = .error e) :
    (s.host = [] → step s = .next (s.raise e)) ∧
      ∀ rest, s.host = .turn :: rest → step s = .next ({ s with host := rest }.raise e) :=
  ⟨fun nothing => (step_of_nothing_pending nothing).trans (sequencerStep_of_fetchInstr_error running fetched),
    fun rest turn => (step_of_turn turn).trans
      (sequencerStep_of_fetchInstr_error (s := { s with host := rest }) running fetched)⟩

end

/-- Settles O5: the word at `pc` is fetched and decodes to the instruction, which is what the step runs. -/
theorem stepRunsDecodedInstruction : Obligations.StepRunsDecodedInstruction := by
  unfold Obligations.StepRunsDecodedInstruction
  intro s i running within decoded
  exact step_of_fetchInstr_ok running (fetchInstr_of_decode_ok within decoded)

/-- Settles O6: the range check comes before the word is looked at, and both faults are those of the fetch. -/
theorem stepFetchAndDecodeFaults : Obligations.StepFetchAndDecodeFaults := by
  unfold Obligations.StepFetchAndDecodeFaults
  intro s running
  refine ⟨fun beyond => ?_, fun e within decoded => ?_⟩
  · exact step_of_fetchInstr_error running (fetchInstr_of_beyond beyond)
  · exact step_of_fetchInstr_error running (fetchInstr_of_decode_error within decoded)

/-! ### Control and address-register instructions -/

/-- The signed offset of R98 and R133 is added modulo `2^16`. -/
theorem addSext16_eq_add (a v : BitVec 16) : addSext16 a v = a + v := by
  rw [addSext16, BitVec.ofInt_add, BitVec.ofInt_natCast, BitVec.ofNat_toNat, BitVec.setWidth_eq, BitVec.ofInt_toInt]

theorem State.target_eq_add (s : State) (off : BitVec 16) : s.target off = s.pc + off := addSext16_eq_add _ _

theorem State.setA_of_ne (s : State) {i : AReg} (h : i ≠ 0) (v : BitVec 16) :
    s.setA i v = { s with a := s.a.set i v } := if_neg h

theorem branch_eq (s : State) (taken : Bool) (off : BitVec 16) :
    branch s taken off = .next { s with pc := if taken then s.pc + off else s.pc + 1 } := by
  rw [branch, State.target_eq_add]
  rfl

theorem exec_bf (s : State) (off : BitVec 16) :
    exec (.bf off) s = .next { s with pc := if s.tflag = true then s.pc + 1 else s.pc + off } := by
  have branches : exec (.bf off) s = branch s (!s.tflag) off := rfl
  rw [branches, branch_eq]
  cases s.tflag <;> rfl

theorem exec_banz_of_ne (s : State) {a : AReg} (h : a ≠ 0) (off : BitVec 16) :
    exec (.banz a off) s = .next { s with pc := if s.a[a] = 0 then s.pc + 1 else s.pc + off } := by
  have branches : exec (.banz a off) s = branch s (s.readA a != 0) off := rfl
  rw [branches, branch_eq, s.readA_of_ne a h]
  by_cases zero : s.a[a] = 0
  · rw [zero, if_pos rfl]
    rfl
  · rw [if_neg zero, if_pos (bne_iff_ne.2 zero)]

theorem exec_jal (s : State) (a : AReg) (off : BitVec 16) :
    exec (.jal a off) s = .next ({ s with pc := s.pc + off }.setA a (s.pc + 1)) := by
  rw [← State.target_eq_add]
  rfl

theorem exec_jr (s : State) (a : AReg) : exec (.jr a) s = .next { s with pc := s.readA a } := rfl

theorem exec_aLi (s : State) (a : AReg) (imm : BitVec 16) : exec (.aLi a imm) s = .next (s.setA a imm).advance := rfl

theorem exec_aAddi (s : State) (a b : AReg) (imm : BitVec 16) :
    exec (.aAddi a b imm) s = .next (s.setA a (s.readA b + imm)).advance := by
  rw [← addSext16_eq_add]
  rfl

/-- Settles O8: the jumps by their target, and the forms with an address register by whether it is `a0` (R24). -/
theorem controlResults : Obligations.ControlResults := by
  unfold Obligations.ControlResults
  intro s
  refine ⟨rfl, rfl, fun _ => rfl, fun off => branch_eq s true off, fun off => branch_eq s s.tflag off,
    fun off => exec_bf s off, fun off => branch_eq s false off, fun a off ha => exec_banz_of_ne s ha off,
    fun off => exec_jal s 0 off, fun a off ha => ?_, exec_jr s 0, fun a ha => ?_, fun imm => exec_aLi s 0 imm,
    fun a imm ha => ?_, fun b imm => exec_aAddi s 0 b imm, fun a imm ha => ?_, fun a b imm ha hb => ?_⟩
  · rw [exec_jal, State.setA_of_ne _ ha]
  · rw [exec_jr, s.readA_of_ne a ha]
  · rw [exec_aLi, s.setA_of_ne ha]
    rfl
  · rw [exec_aAddi, s.setA_of_ne ha, s.readA_zero, zero_add]
    rfl
  · rw [exec_aAddi, s.setA_of_ne ha, s.readA_of_ne b hb]
    rfl

/-! ### Integer-register instructions -/

/-- An instruction with one source that is read writes and goes on. -/
theorem compute1_of_ok {α β : Type} {s : State} {x : Except Trap α} {v : α} (source : x = .ok v) (f : α → β)
    (write : β → State) : compute1 s x f write = .next (write (f v)).advance := by
  rw [source]
  rfl

theorem toNat_ofNat_of_bits {n bits width : Nat} (fits : n < 2 ^ bits) (narrow : bits ≤ width) :
    (BitVec.ofNat width n).toNat = n := by
  rw [BitVec.toNat_ofNat, Nat.mod_eq_of_lt (fits.trans_le (Nat.pow_le_pow_right Nat.two_pos narrow))]

/-- The group order has 255 bits, so the residue of K.MODR fits the register it goes to. -/
theorem toNat_ofNat_mod_orderR (n : Nat) : (BitVec.ofNat 384 (n % orderR)).toNat = n % orderR := by
  have below : n % orderR < orderR := Nat.mod_lt n (by decide)
  have bits : orderR < 2 ^ 255 := by decide
  exact toNat_ofNat_of_bits (below.trans bits) (by decide)

/-- Settles O9: each writes its destination, K.MOV and K.MODR what they make of the source they read. -/
theorem integerResults : Obligations.IntegerResults := by
  unfold Obligations.IntegerResults
  intro s
  refine ⟨fun a imm => ?_, fun a b n held => ?_, fun a b n held => ⟨_, toNat_ofNat_mod_orderR n.toNat, ?_⟩⟩
  · rw [BitVec.ofNat_toNat]
    rfl
  · exact compute1_of_ok ((readReg_eq_ok 1 _ b n).2 held) id (s.setK a)
  · exact compute1_of_ok ((readReg_eq_ok 1 _ b n).2 held) _ (s.setK a)

/-! ### Where `pc` goes -/

/-- Every instruction that is no jump faults in the state it found, or moves `pc` to the next word: whatever it reads
and checks first, what it then writes is not `pc`. -/
theorem exec_faultsOr_nextWord {i : Instr} {s t : State} (noJump : isJump i = false) (h : exec i s = .next t) :
    FaultsOr (fun u => u.pc = s.pc + 1) s t := by
  cases i with
  | j | bt | bf | banz | jal | jr => cases noJump
  | trap => exact .inl ⟨_, (Host.Outcome.next.inj h).symm⟩
  | aLi | aAddi => exact complete_ok_faultsOr h (congrArg (· + 1) (State.setA_pc s _ _))
  | nop | halt | kLi | fpLi | fp2Li | fp6Li | fp12Li | g1Zero | g2Zero => exact complete_ok_faultsOr h rfl
  | g1Dec | g2Dec => exact decodePoint_faultsOr h fun _ => rfl
  | kSt | fpSt | fp2St | fp6St | fp12St | g1Enc | g2Enc =>
    exact complete_faultsOr h (yields_bind fun _ => yields_memWrite rfl)
  -- the cyclotomic operations, which count their draws (U1, log 4)
  | fp12Cycsqr =>
    refine complete_faultsOr h (yields_bind fun _ => yields_ok ?_)
    dsimp only
    split_ifs <;> rfl
  | fp12Cycpow =>
    refine complete_faultsOr h (yields_bind fun _ => yields_bind fun _ => yields_ok ?_)
    dsimp only
    split_ifs <;> rfl
  -- all others: reads and checks, one after the other, then a write of value registers or `T`
  | _ =>
    refine complete_faultsOr h ?_
    repeat refine yields_bind fun _ => ?_
    exact yields_ok rfl

/-- Settles O52: a fault records the `pc` it leaves as it was. -/
theorem pcGoesOnOrStays : Obligations.PcGoesOnOrStays := by
  unfold Obligations.PcGoesOnOrStays
  intro i s t noJump h
  rcases exec_faultsOr_nextWord noJump h with ⟨e, rfl⟩ | nextWord
  · exact .inr ⟨rfl, rfl, rfl⟩
  · exact .inl nextWord

end Sys2Proof.Machine
end

section
/-! PROOFS. The arithmetic of Fp is that of the integers modulo `p` (spec/41_fp.md section 1): each operation as
`ZMod` has it, powers, inverses by Euclid's algorithm, and square roots. -/

namespace Sys2Proof

/-! ### Operations, by their residues -/

/-- The residue class that an element of Fp stands for. -/
def Fp.toZMod (x : Fp) : ZMod Config.p := (x.val : ZMod Config.p)

theorem Fp.natCast_eq_toZMod_iff (n : Nat) (x : Fp) : (n : ZMod Config.p) = Fp.toZMod x ↔ n % Config.p = x.val := by
  rw [Fp.toZMod, ZMod.natCast_eq_natCast_iff', Nat.mod_eq_of_lt x.isLt]

@[simp] theorem Fp.toZMod_inj {x y : Fp} : Fp.toZMod x = Fp.toZMod y ↔ x = y := by
  rw [Fp.toZMod, Fp.natCast_eq_toZMod_iff, Nat.mod_eq_of_lt x.isLt, Fin.val_inj]

@[simp] theorem Fp.toZMod_ofNat (n : Nat) : Fp.toZMod (Fp.ofNat n) = n := ZMod.natCast_mod n Config.p

theorem Fp.toZMod_val (x : Fp) : (x.val : ZMod Config.p) = Fp.toZMod x := rfl

@[simp] theorem Fp.toZMod_zero : Fp.toZMod Fp.zero = 0 := by simp [Fp.zero]

@[simp] theorem Fp.toZMod_one : Fp.toZMod Fp.one = 1 := by simp [Fp.one]

@[simp] theorem Fp.toZMod_add (x y : Fp) : Fp.toZMod (Fp.add x y) = Fp.toZMod x + Fp.toZMod y := by
  simp [Fp.add, Fp.toZMod_val]

theorem Fp.natCast_modulus_sub (x : Fp) : ((Config.p - x.val : Nat) : ZMod Config.p) = -x.val := by
  rw [Nat.cast_sub x.isLt.le, ZMod.natCast_self, zero_sub]

@[simp] theorem Fp.toZMod_neg (x : Fp) : Fp.toZMod (Fp.neg x) = -Fp.toZMod x := by
  rw [Fp.neg, Fp.toZMod_ofNat, Fp.natCast_modulus_sub, Fp.toZMod_val]

@[simp] theorem Fp.toZMod_sub (x y : Fp) : Fp.toZMod (Fp.sub x y) = Fp.toZMod x - Fp.toZMod y := by
  simp [Fp.sub, sub_eq_add_neg]

@[simp] theorem Fp.toZMod_mul (x y : Fp) : Fp.toZMod (Fp.mul x y) = Fp.toZMod x * Fp.toZMod y := by
  simp [Fp.mul, Fp.toZMod_val]

@[simp] theorem Fp.toZMod_sqr (x : Fp) : Fp.toZMod (Fp.sqr x) = Fp.toZMod x ^ 2 := by
  rw [Fp.sqr, Fp.toZMod_mul, sq]

@[simp] theorem Fp.toZMod_scale (x : Fp) (n : Nat) : Fp.toZMod (Fp.scale x n) = Fp.toZMod x * n := by
  simp [Fp.scale, Fp.toZMod_val]

/-- `INV2` is the half of `p + 1`, which is 1 modulo `p` (R160). -/
theorem Fp.two_mul_toZMod_halve (x : Fp) : 2 * Fp.toZMod (Fp.halve x) = Fp.toZMod x := by
  have double : 2 * ((Config.p + 1) / 2) = Config.p + 1 := by decide
  have half : (2 : ZMod Config.p) * ((Config.p + 1) / 2 : Nat) = 1 := by
    rw [← Nat.cast_ofNat, ← Nat.cast_mul, double, Nat.cast_add, ZMod.natCast_self, zero_add, Nat.cast_one]
  rw [Fp.halve, Fp.toZMod_mul, inv2, Fp.toZMod_ofNat, mul_left_comm, half, mul_one]

/-- A map that takes `mul` to the product of a monoid takes square-and-multiply to the power. -/
theorem map_powBits {α M : Type} [Monoid M] {mul : α → α → α} {one : α} {φ : α → M} (map_one : φ one = 1)
    (map_mul : ∀ x y, φ (mul x y) = φ x * φ y) (a : α) :
    ∀ n e : Nat, e < 2 ^ n → φ (powBits mul one a n e) = φ a ^ e
  | 0, e, bits => by rw [Nat.lt_one_iff.mp bits, pow_zero, powBits, map_one]
  | n + 1, e, bits => by
    have half := map_powBits map_one map_mul a n (e / 2) (by omega)
    rw [powBits]
    rcases Nat.mod_two_eq_zero_or_one e with even | odd
    · rw [even, if_neg Nat.zero_ne_one, map_mul, half, ← pow_add]
      congr 1
      omega
    · rw [odd, if_pos rfl, map_mul, map_mul, half, ← pow_add, ← pow_succ]
      congr 1
      omega

theorem map_powBy {α M : Type} [Monoid M] {mul : α → α → α} {one : α} {φ : α → M} (map_one : φ one = 1)
    (map_mul : ∀ x y, φ (mul x y) = φ x * φ y) (a : α) (e : Nat) : φ (powBy mul one a e) = φ a ^ e :=
  map_powBits map_one map_mul a _ e Nat.lt_log2_self

@[simp] theorem Fp.toZMod_pow (x : Fp) (e : Nat) : Fp.toZMod (Fp.pow x e) = Fp.toZMod x ^ e :=
  map_powBy Fp.toZMod_one Fp.toZMod_mul x e

/-! ### The same, in integers -/

theorem Fp.sub_eq_ofNat (x y : Fp) : Fp.sub x y = Fp.ofNat (x.val + (Config.p - y.val)) := by
  rw [← Fp.toZMod_inj, Fp.toZMod_ofNat, Nat.cast_add, Fp.natCast_modulus_sub, Fp.toZMod_sub, sub_eq_add_neg,
    Fp.toZMod_val, Fp.toZMod_val]

theorem Fp.sqr_eq_ofNat (x : Fp) : Fp.sqr x = Fp.ofNat (x.val ^ 2) := by
  simp [← Fp.toZMod_inj, Fp.toZMod_val]

theorem Fp.cube_eq_ofNat (x : Fp) : Fp.cube x = Fp.ofNat (x.val ^ 3) := by
  rw [← Fp.toZMod_inj, Fp.cube]
  simp [Fp.toZMod_val, pow_succ]

theorem Fp.pow_eq_ofNat (x : Fp) (e : Nat) : Fp.pow x e = Fp.ofNat (x.val ^ e) := by
  simp [← Fp.toZMod_inj, Fp.toZMod_val]

theorem Fp.two_mul_halve_mod (x : Fp) : 2 * (Fp.halve x).val % Config.p = x.val := by
  rw [← Fp.natCast_eq_toZMod_iff, Nat.cast_mul, Fp.toZMod_val]
  exact Fp.two_mul_toZMod_halve x

/-! ### Inverses and quotients -/

/-- One division with remainder more than halves the product of the two numbers. -/
theorem two_mul_mul_mod_le {r₀ r₁ : Nat} (ordered : r₁ ≤ r₀) (positive : 0 < r₁) :
    2 * (r₁ * (r₀ % r₁)) ≤ r₀ * r₁ := by
  have quotient : 1 ≤ r₀ / r₁ := (Nat.one_le_div_iff positive).2 ordered
  have split : r₁ * (r₀ / r₁) + r₀ % r₁ = r₀ := Nat.div_add_mod r₀ r₁
  have small : r₀ % r₁ < r₁ := Nat.mod_lt r₀ positive
  have : 2 * (r₀ % r₁) ≤ r₀ := by nlinarith
  nlinarith

/-- The loop of R158 with passes enough: where `s₀` and `s₁` are the factors by which `y` gives `r₀` and `r₁`, its
answer is the one by which `y` gives their greatest common divisor. -/
theorem euclid_mul {R : Type} [CommRing R] (y : R) : ∀ (n r₀ r₁ : Nat) (s₀ s₁ : Int), r₁ ≤ r₀ → r₀ * r₁ < 2 ^ n →
    s₀ * y = r₀ → s₁ * y = r₁ → euclid n r₀ r₁ s₀ s₁ * y = (r₀.gcd r₁ : Nat)
  | 0, r₀, r₁, s₀, s₁, ordered, passes, h₀, _ => by
    have done : r₁ = 0 := by
      rcases Nat.mul_eq_zero.1 (Nat.lt_one_iff.1 passes) with zero | zero <;> omega
    rw [euclid, h₀, done, Nat.gcd_zero_right]
  | n + 1, r₀, r₁, s₀, s₁, ordered, passes, h₀, h₁ => by
    rw [euclid]
    split_ifs with done
    · rw [h₀, done, Nat.gcd_zero_right]
    · have positive := Nat.pos_of_ne_zero done
      have halved := two_mul_mul_mod_le ordered positive
      have remainder : ((s₀ - (r₀ / r₁ : Nat) * s₁ : Int) : R) * y = (r₀ % r₁ : Nat) := by
        have split := congrArg (Nat.cast (R := R)) (Nat.div_add_mod r₀ r₁)
        simp only [Nat.cast_add, Nat.cast_mul, Int.cast_sub, Int.cast_mul, Int.cast_natCast] at split ⊢
        linear_combination h₀ - (r₀ / r₁ : Nat) * h₁ - split
      rw [euclid_mul y n r₁ (r₀ % r₁) s₁ _ (Nat.mod_lt r₀ positive).le (by omega) h₁ remainder,
        Nat.gcd_comm r₁, ← Nat.gcd_rec, Nat.gcd_comm]

@[simp] theorem Fp.toZMod_eq_zero_iff {x : Fp} : Fp.toZMod x = 0 ↔ x = Fp.zero := by
  rw [← Fp.toZMod_zero, Fp.toZMod_inj]

theorem Fp.eq_zero_iff (x : Fp) : x = Fp.zero ↔ x.val = 0 := Fin.ext_iff

theorem Fp.eq_one_iff (x : Fp) : x = Fp.one ↔ x.val = 1 := Fin.ext_iff

theorem Fp.inv_zero : Fp.inv Fp.zero = none := if_pos rfl

theorem Fp.div_zero (x : Fp) : Fp.div x Fp.zero = none := by rw [Fp.div, Fp.inv_zero, Option.map_none]

/-- 768 passes are enough for two numbers of 48 bytes (log 11). -/
theorem Fp.exists_inv {y : Fp} (nonzero : y ≠ Fp.zero) :
    ∃ r, Fp.inv y = some r ∧ Fp.toZMod y * Fp.toZMod r = (Config.p.gcd y.val : Nat) := by
  refine ⟨_, if_neg nonzero, ?_⟩
  have bytes : Config.p ≤ (2 ^ 8) ^ 48 := by decide
  have passes : Config.p * y.val < 2 ^ 768 :=
    calc Config.p * y.val < (2 ^ 8) ^ 48 * (2 ^ 8) ^ 48 :=
          Nat.mul_lt_mul_of_le_of_lt bytes (y.isLt.trans_le bytes) (Nat.pow_pos (Nat.two_pow_pos 8))
      _ = 2 ^ 768 := by rw [← pow_add, ← pow_mul]
  have bezout := euclid_mul (Fp.toZMod y) 768 Config.p y.val 0 1 y.isLt.le passes
    (by rw [Int.cast_zero, zero_mul, ZMod.natCast_self]) (by rw [Int.cast_one, one_mul, Fp.toZMod_val])
  generalize euclid 768 Config.p y.val 0 1 = t at bezout ⊢
  have residue : (((t % (Config.p : Int)).toNat : Nat) : ZMod Config.p) = t := by
    rw [← Int.cast_natCast, Int.toNat_of_nonneg (Int.emod_nonneg t (by decide)), ZMod.intCast_mod]
  rw [Fp.toZMod_ofNat, residue, mul_comm, bezout]

theorem Fp.exists_div (x : Fp) {y : Fp} (nonzero : y ≠ Fp.zero) :
    ∃ r, Fp.div x y = some r ∧ Fp.toZMod y * Fp.toZMod r = (Config.p.gcd y.val : Nat) * Fp.toZMod x := by
  obtain ⟨r, inverse, product⟩ := Fp.exists_inv nonzero
  refine ⟨Fp.mul x r, by rw [Fp.div, inverse, Option.map_some], ?_⟩
  rw [Fp.toZMod_mul, mul_left_comm, product, mul_comm]

end Sys2Proof
end

section
/-! PROOFS. Equality and the tests for zero and one in the four fields (spec/41_fp.md R162, spec/42_fp2.md R210,
spec/43_fp6.md R260, spec/44_fp12.md R308). -/

namespace Sys2Proof

/-! ### Equality is equality of representations -/

@[simp] theorem Fp.eq_iff (x y : Fp) : Fp.eq x y = true ↔ x = y := beq_iff_eq

@[simp] theorem Fp2.eq_iff (x y : Fp2) : Fp2.eq x y = true ↔ x = y := by
  rw [Fp2.eq, Bool.and_eq_true, Fp.eq_iff, Fp.eq_iff, ← Fp2.mk.injEq]

@[simp] theorem Fp6.eq_iff (x y : Fp6) : Fp6.eq x y = true ↔ x = y := by
  rw [Fp6.eq, Bool.and_eq_true, Bool.and_eq_true, Fp2.eq_iff, Fp2.eq_iff, Fp2.eq_iff, and_assoc, ← Fp6.mk.injEq]

@[simp] theorem Fp12.eq_iff (x y : Fp12) : Fp12.eq x y = true ↔ x = y := by
  rw [Fp12.eq, Bool.and_eq_true, Fp6.eq_iff, Fp6.eq_iff, ← Fp12.mk.injEq]

@[simp] theorem Fp.isZero_iff (x : Fp) : Fp.isZero x = true ↔ x = Fp.zero := Fp.eq_iff x _

@[simp] theorem Fp.isOne_iff (x : Fp) : Fp.isOne x = true ↔ x = Fp.one := Fp.eq_iff x _

@[simp] theorem Fp2.isZero_iff (x : Fp2) : Fp2.isZero x = true ↔ x = Fp2.zero := Fp2.eq_iff x _

end Sys2Proof

namespace Sys2Proof.Machine

/-! ### An element is given by its flattening (R65) -/

theorem flatFp2_injective : Function.Injective flatFp2 := fun x y same => by
  obtain ⟨h₀, tail⟩ := List.cons.inj same
  obtain ⟨h₁, -⟩ := List.cons.inj tail
  exact congrArg₂ Fp2.mk (Fin.ext h₀) (Fin.ext h₁)

theorem flatFp6_injective : Function.Injective flatFp6 := fun x y same => by
  obtain ⟨same₀₁, h₂⟩ := List.append_inj same rfl
  obtain ⟨h₀, h₁⟩ := List.append_inj same₀₁ rfl
  exact congr (congrArg₂ Fp6.mk (flatFp2_injective h₀) (flatFp2_injective h₁)) (flatFp2_injective h₂)

theorem flatFp12_injective : Function.Injective flatFp12 := fun x y same => by
  obtain ⟨h₀, h₁⟩ := List.append_inj same rfl
  exact congrArg₂ Fp12.mk (flatFp6_injective h₀) (flatFp6_injective h₁)

/-! ### An instruction whose sources are read -/

theorem compute2_of_ok {α β γ : Type} {s : State} {x : Except Trap α} {y : Except Trap β} {u : α} {v : β}
    (first : x = .ok u) (second : y = .ok v) (f : α → β → γ) (write : γ → State) :
    compute2 s x y f write = .next (write (f u v)).advance := by
  rw [first, second]
  rfl

theorem test1_of_ok {α : Type} {s : State} {x : Except Trap α} {u : α} (source : x = .ok u) {f : α → Bool} {P : Prop}
    [Decidable P] (meaning : f u = true ↔ P) :
    test1 s x f = .next { s with tflag := decide P, pc := s.pc + 1 } := by
  rw [test1, compute1_of_ok source, (Bool.eq_iff_iff.2 (meaning.trans decide_eq_true_iff.symm) : f u = decide P)]
  rfl

theorem test2_of_ok {α β : Type} {s : State} {x : Except Trap α} {y : Except Trap β} {u : α} {v : β}
    (first : x = .ok u) (second : y = .ok v) {f : α → β → Bool} {P : Prop} [Decidable P]
    (meaning : f u v = true ↔ P) : test2 s x y f = .next { s with tflag := decide P, pc := s.pc + 1 } := by
  rw [test2, compute2_of_ok first second,
    (Bool.eq_iff_iff.2 (meaning.trans decide_eq_true_iff.symm) : f u v = decide P)]
  rfl

/-- The three tests of a field whose equality is that of elements: those for zero and one compare with a constant, and
so do its flattening. -/
theorem equalityTests {α β : Type} [DecidableEq α] [DecidableEq β] {s : State} {x y : Except Trap α} {u v : α}
    (first : x = .ok u) (second : y = .ok v) {eq : α → α → Bool} (eq_iff : ∀ a b, eq a b = true ↔ a = b) {flat : α → β}
    (injective : flat.Injective) (zero one : α) :
    test2 s x y eq = .next { s with tflag := decide (u = v), pc := s.pc + 1 } ∧
    test1 s x (eq · zero) = .next { s with tflag := decide (flat u = flat zero), pc := s.pc + 1 } ∧
    test1 s x (eq · one) = .next { s with tflag := decide (flat u = flat one), pc := s.pc + 1 } :=
  have same (c : α) : eq u c = true ↔ flat u = flat c := (eq_iff u c).trans injective.eq_iff.symm
  ⟨test2_of_ok first second (eq_iff u v), test1_of_ok first (same zero), test1_of_ok first (same one)⟩

/-- Settles O18: each test is an equality of elements, and that with a constant an equality of flattenings. -/
theorem fieldTests : Obligations.FieldTests := by
  unfold Obligations.FieldTests
  intro s
  refine ⟨fun b c x y heldB heldC => ?_, fun b c x y heldB heldC => ?_, fun b c x y heldB heldC => ?_,
    fun b c x y heldB heldC => ?_⟩
  · exact equalityTests ((readReg_eq_ok 2 s.f b x).2 heldB) ((readReg_eq_ok 2 s.f c y).2 heldC) Fp.eq_iff
      Fin.val_injective Fp.zero Fp.one
  · exact equalityTests ((readReg_eq_ok 3 s.q b x).2 heldB) ((readReg_eq_ok 3 s.q c y).2 heldC) Fp2.eq_iff
      flatFp2_injective Fp2.zero Fp2.one
  · exact equalityTests ((readReg_eq_ok 4 s.s b x).2 heldB) ((readReg_eq_ok 4 s.s c y).2 heldC) Fp6.eq_iff
      flatFp6_injective Fp6.zero Fp6.one
  · exact equalityTests ((readReg_eq_ok 5 s.t b x).2 heldB) ((readReg_eq_ok 5 s.t c y).2 heldC) Fp12.eq_iff
      flatFp12_injective Fp12.zero Fp12.one

end Sys2Proof.Machine
end

section
/-! PROOFS. The Fp instructions that compute a value (O10), and inverses and quotients (O11). -/

namespace Sys2Proof.Machine

/-! ### An instruction whose operation may have no value -/

section
variable {α β : Type} {s : State} {x : Except Trap α} {u : α} (source : x = .ok u) {f : α → Option β} (c : Cause)
  (write : β → State)
include source

theorem attempt1_of_some {r : β} (value : f u = some r) : attempt1 s x f c write = .next (write r).advance := by
  rw [attempt1, source, Except.bind, value]
  rfl

theorem attempt1_of_none (noValue : f u = none) : attempt1 s x f c write = .next (s.raise ⟨c, 0⟩) := by
  rw [attempt1, source, Except.bind, noValue]
  rfl

end

section
variable {α β γ : Type} {s : State} {x : Except Trap α} {y : Except Trap β} {u : α} {v : β} (first : x = .ok u)
  (second : y = .ok v) {f : α → β → Option γ} (c : Cause) (write : γ → State)
include first second

theorem attempt2_of_some {r : γ} (value : f u v = some r) : attempt2 s x y f c write = .next (write r).advance := by
  rw [attempt2, first, second, Except.bind, Except.bind, value]
  rfl

theorem attempt2_of_none (noValue : f u v = none) : attempt2 s x y f c write = .next (s.raise ⟨c, 0⟩) := by
  rw [attempt2, first, second, Except.bind, Except.bind, noValue]
  rfl

end

/-! ### The statements -/

/-- Settles O10: each writes what its function of spec/41_fp.md section 1 gives, in integers. -/
theorem fpArithmeticResults : Obligations.FpArithmeticResults := by
  unfold Obligations.FpArithmeticResults
  intro s
  refine ⟨fun a imm => rfl, fun a b x held => ?_, fun a b c x y heldB heldC => ?_, fun a b c x n heldB heldC => ?_⟩
  · have readB : s.readF b = .ok x := (readReg_eq_ok 2 s.f b x).2 held
    rw [← Fp.sqr_eq_ofNat, ← Fp.cube_eq_ofNat]
    exact ⟨compute1_of_ok readB id (s.setF a), compute1_of_ok readB Fp.neg (s.setF a),
      compute1_of_ok readB Fp.sqr (s.setF a), compute1_of_ok readB Fp.cube (s.setF a),
      Fp.halve x, Fp.two_mul_halve_mod x, compute1_of_ok readB Fp.halve (s.setF a)⟩
  · have readB : s.readF b = .ok x := (readReg_eq_ok 2 s.f b x).2 heldB
    have readC : s.readF c = .ok y := (readReg_eq_ok 2 s.f c y).2 heldC
    rw [← Fp.sub_eq_ofNat]
    exact ⟨compute2_of_ok readB readC Fp.add (s.setF a), compute2_of_ok readB readC Fp.sub (s.setF a),
      compute2_of_ok readB readC Fp.mul (s.setF a)⟩
  · have readB : s.readF b = .ok x := (readReg_eq_ok 2 s.f b x).2 heldB
    have readC : s.readK c = .ok n := (readReg_eq_ok 1 s.k c n).2 heldC
    rw [← Fp.pow_eq_ofNat]
    exact ⟨compute2_of_ok readB readC _ (s.setF a), compute2_of_ok readB readC _ (s.setF a)⟩

/-- Settles O11: Euclid's algorithm gives the factor by which the divisor is its greatest common divisor with `p`. -/
theorem fpInverseAndQuotient : Obligations.FpInverseAndQuotient := by
  unfold Obligations.FpInverseAndQuotient
  intro s a b c x y heldB heldC
  have readB : s.readF b = .ok x := (readReg_eq_ok 2 s.f b x).2 heldB
  have readC : s.readF c = .ok y := (readReg_eq_ok 2 s.f c y).2 heldC
  rw [Ne, ← Fp.eq_zero_iff]
  refine ⟨fun nonzero => ?_, fun nonzero => ?_, fun zero => ?_⟩
  · obtain ⟨r, value, product⟩ := Fp.exists_inv nonzero
    refine ⟨r, attempt1_of_some readC .invZero (s.setF a) value, fun coprime => ?_⟩
    rw [coprime.symm.gcd_eq_one, Nat.cast_one, ← Fp.toZMod_one] at product
    exact (Fp.natCast_eq_toZMod_iff _ Fp.one).1 ((Nat.cast_mul _ _).trans product)
  · obtain ⟨r, value, product⟩ := Fp.exists_div x nonzero
    refine ⟨r, attempt2_of_some readB readC .invZero (s.setF a) value, fun coprime => ?_⟩
    rw [coprime.symm.gcd_eq_one, Nat.cast_one, one_mul] at product
    exact (Fp.natCast_eq_toZMod_iff _ x).1 ((Nat.cast_mul _ _).trans product)
  · exact ⟨attempt1_of_none readC .invZero (s.setF a) (zero ▸ Fp.inv_zero),
      attempt2_of_none readB readC .invZero (s.setF a) (zero ▸ Fp.div_zero x)⟩

end Sys2Proof.Machine
end

section
/-! PROOFS. Square roots in Fp and Fp2 (O12): what the rules compute is a root where there is one, because `p` is a
prime that is 3 modulo 4, and in Fp2 the sign is chosen. -/

namespace Sys2Proof

/-! ### Squares and roots in Fp -/

theorem two_ne_zero_mod : (2 : ZMod Config.p) ≠ 0 := by
  rw [← Nat.cast_two, Ne, ZMod.natCast_eq_zero_iff]
  decide

section
variable [Fact (Nat.Prime Config.p)]

/-- Euler's criterion (R163). -/
theorem Fp.isSquare_iff (x : Fp) : Fp.isSquare x = true ↔ IsSquare (Fp.toZMod x) := by
  rw [Fp.isSquare, Bool.or_eq_true, Fp.isZero_iff, Fp.isOne_iff]
  by_cases zero : x = Fp.zero
  · simp [zero]
  · have exponent : eulerExp = Config.p / 2 := by decide
    rw [ZMod.euler_criterion Config.p (Fp.toZMod_eq_zero_iff.not.2 zero), or_iff_right zero, ← Fp.toZMod_inj,
      Fp.toZMod_pow, exponent, Fp.toZMod_one]

/-- `p` is 3 modulo 4, so the square of `x ^ ((p + 1) / 4)` is `x` for a square `x` (R161). -/
theorem Fp.exists_sqrt {x : Fp} (square : IsSquare (Fp.toZMod x)) :
    ∃ r, Fp.sqrt x = some r ∧ Fp.toZMod r ^ 2 = Fp.toZMod x := by
  obtain ⟨b, hb⟩ := square
  have exponent : 2 * (sqrtExp * 2) = Config.p + 1 := by decide
  have root : Fp.toZMod (Fp.pow x sqrtExp) ^ 2 = Fp.toZMod x := by
    rw [Fp.toZMod_pow, hb, ← sq, ← pow_mul, ← pow_mul, exponent, pow_succ, ZMod.pow_card, sq]
  exact ⟨_, if_pos (Fp.toZMod_inj.1 ((Fp.toZMod_sqr _).trans root)), root⟩

theorem Fp.exists_quotient (x : Fp) {y : Fp} (nonzero : Fp.toZMod y ≠ 0) :
    ∃ r, Fp.div x y = some r ∧ Fp.toZMod y * Fp.toZMod r = Fp.toZMod x := by
  have nonzero' : y ≠ Fp.zero := Fp.toZMod_eq_zero_iff.not.1 nonzero
  obtain ⟨r, value, product⟩ := Fp.exists_div x nonzero'
  have coprime : Config.p.gcd y.val = 1 :=
    Nat.coprime_of_lt_prime ((Fp.eq_zero_iff y).not.1 nonzero') y.isLt Fact.out
  rw [coprime, Nat.cast_one, one_mul] at product
  exact ⟨r, value, product⟩

end

/-! ### Roots in a quadratic extension by a root of -1, in coordinates -/

section
variable {K : Type} [Field K] {a b y₀ y₁ l d e : K}

/-- Both halves `d` of `a + l` and `a - l` meet the hypothesis, `l` being a root of the norm. -/
theorem half_ne_zero (imaginary : b ≠ 0) (half : (2 * d - a) ^ 2 = a ^ 2 + b ^ 2) : d ≠ 0 := by
  rintro rfl
  exact imaginary (pow_eq_zero_iff two_ne_zero |>.1 (by linear_combination -half))

variable (two : (2 : K) ≠ 0)
include two

/-- Where `y₀ + y₁u` is a root of `a + bu` and `l` one of the norm, one of `(a + l)/2` and `(a - l)/2` is a square:
`l` is the norm of `y₀ + y₁u` up to sign, so one of the two is `y₀ ^ 2`. -/
theorem isSquare_half_of_root (re : y₀ ^ 2 - y₁ ^ 2 = a) (im : 2 * y₀ * y₁ = b) (norm : l ^ 2 = a ^ 2 + b ^ 2)
    (sum : 2 * d = a + l) (difference : 2 * e = a - l) : IsSquare d ∨ IsSquare e := by
  have sign : l ^ 2 = (y₀ ^ 2 + y₁ ^ 2) ^ 2 := by rw [norm, ← re, ← im]; ring
  rcases sq_eq_sq_iff_eq_or_eq_neg.1 sign with plus | minus
  · exact .inl ⟨y₀, mul_left_cancel₀ two (by rw [sum, plus, ← re]; ring)⟩
  · exact .inr ⟨y₀, mul_left_cancel₀ two (by rw [difference, minus, ← re]; ring)⟩

/-- A root of such a half is the real part of a root. -/
theorem root_of_half (nonzero : d ≠ 0) (half : (2 * d - a) ^ 2 = a ^ 2 + b ^ 2) (real : y₀ ^ 2 = d)
    (im : 2 * y₀ * y₁ = b) : y₀ ^ 2 - y₁ ^ 2 = a := by
  have four : (2 * 2 * d : K) ≠ 0 := mul_ne_zero (mul_ne_zero two two) nonzero
  refine mul_left_cancel₀ four ?_
  subst im real
  linear_combination half

end

/-! ### Squares and roots in Fp2 -/

theorem Fp2.ext_toZMod {x y : Fp2} (re : Fp.toZMod x.c0 = Fp.toZMod y.c0) (im : Fp.toZMod x.c1 = Fp.toZMod y.c1) :
    x = y :=
  congrArg₂ Fp2.mk (Fp.toZMod_inj.1 re) (Fp.toZMod_inj.1 im)

theorem Fp2.mul_self_eq_iff (r x : Fp2) : Fp2.mul r r = x ↔
    Fp.toZMod r.c0 ^ 2 - Fp.toZMod r.c1 ^ 2 = Fp.toZMod x.c0 ∧
      2 * Fp.toZMod r.c0 * Fp.toZMod r.c1 = Fp.toZMod x.c1 := by
  have re : Fp.toZMod (Fp2.mul r r).c0 = Fp.toZMod r.c0 ^ 2 - Fp.toZMod r.c1 ^ 2 := by simp [Fp2.mul, sq]
  have im : Fp.toZMod (Fp2.mul r r).c1 = 2 * Fp.toZMod r.c0 * Fp.toZMod r.c1 := by simp [Fp2.mul]; ring
  rw [← re, ← im]
  exact ⟨fun same => same ▸ ⟨rfl, rfl⟩, fun ⟨h₀, h₁⟩ => Fp2.ext_toZMod h₀ h₁⟩

theorem Fp2.toZMod_norm (x : Fp2) : Fp.toZMod (Fp2.norm x) = Fp.toZMod x.c0 ^ 2 + Fp.toZMod x.c1 ^ 2 := by
  simp [Fp2.norm]

/-- The steps of R213 for an element that is not real. -/
theorem Fp2.sqrtCandidate_of_steps {x : Fp2} {l d x₀ x₁ : Fp} (notReal : x.c1 ≠ Fp.zero)
    (normSquare : Fp.isSquare (Fp2.norm x) = true) (rootOfNorm : Fp.sqrt (Fp2.norm x) = some l)
    (chosen : (if Fp.isSquare (Fp.halve (Fp.add x.c0 l)) then Fp.halve (Fp.add x.c0 l)
      else Fp.halve (Fp.sub x.c0 l)) = d)
    (rootOfHalf : Fp.sqrt d = some x₀) (quotient : Fp.div x.c1 (Fp.scale x₀ 2) = some x₁) :
    Fp2.sqrtCandidate x = some ⟨x₀, x₁⟩ := by
  rw [Fp2.sqrtCandidate, if_neg ((Fp.isZero_iff _).not.2 notReal), if_pos normSquare, rootOfNorm, Option.bind_some,
    chosen]
  simp only [rootOfHalf, Option.bind_some, quotient, Option.map_some]

section
variable [Fact (Nat.Prime Config.p)] {x y : Fp2} (root : Fp2.mul y y = x)
include root

/-- A real square is the square of a real element, or minus that of a real element. -/
theorem Fp2.sqrtCandidate_of_real (real : x.c1 = Fp.zero) : ∃ r, Fp2.sqrtCandidate x = some r ∧ Fp2.mul r r = x := by
  obtain ⟨re, im⟩ := (Fp2.mul_self_eq_iff y x).1 root
  have imaginary : Fp.toZMod x.c1 = 0 := Fp.toZMod_eq_zero_iff.2 real
  rw [Fp2.sqrtCandidate, if_pos ((Fp.isZero_iff _).2 real)]
  split_ifs with square
  · obtain ⟨r, value, squared⟩ := Fp.exists_sqrt ((Fp.isSquare_iff _).1 square)
    refine ⟨⟨r, Fp.zero⟩, by rw [value, Option.map_some], (Fp2.mul_self_eq_iff _ x).2 ?_⟩
    simp [squared, imaginary]
  · have notReal : Fp.toZMod y.c1 ≠ 0 := fun zero =>
      square ((Fp.isSquare_iff _).2 ⟨Fp.toZMod y.c0, by rw [← re, zero]; ring⟩)
    have noRealPart : Fp.toZMod y.c0 = 0 := by
      simpa [imaginary, notReal, two_ne_zero_mod] using im
    have negated : IsSquare (Fp.toZMod (Fp.neg x.c0)) :=
      ⟨Fp.toZMod y.c1, by rw [Fp.toZMod_neg, ← re, noRealPart]; ring⟩
    obtain ⟨r, value, squared⟩ := Fp.exists_sqrt negated
    refine ⟨⟨Fp.zero, r⟩, by rw [value, Option.map_some], (Fp2.mul_self_eq_iff _ x).2 ?_⟩
    simp [squared, imaginary]

/-- The half that the rule takes is a square: the first where that is one, else the second. -/
theorem Fp2.exists_chosen_half {l : Fp} (norm : Fp.toZMod l ^ 2 = Fp.toZMod x.c0 ^ 2 + Fp.toZMod x.c1 ^ 2) :
    ∃ d, (if Fp.isSquare (Fp.halve (Fp.add x.c0 l)) then Fp.halve (Fp.add x.c0 l) else Fp.halve (Fp.sub x.c0 l)) = d ∧
      IsSquare (Fp.toZMod d) ∧
      (2 * Fp.toZMod d - Fp.toZMod x.c0) ^ 2 = Fp.toZMod x.c0 ^ 2 + Fp.toZMod x.c1 ^ 2 := by
  obtain ⟨re, im⟩ := (Fp2.mul_self_eq_iff y x).1 root
  have sum := (Fp.two_mul_toZMod_halve (Fp.add x.c0 l)).trans (Fp.toZMod_add _ _)
  have difference := (Fp.two_mul_toZMod_halve (Fp.sub x.c0 l)).trans (Fp.toZMod_sub _ _)
  refine ⟨_, rfl, ?_⟩
  split_ifs with first
  · exact ⟨(Fp.isSquare_iff _).1 first, by rw [sum, ← norm]; ring⟩
  · have either := isSquare_half_of_root two_ne_zero_mod re im norm sum difference
    exact ⟨either.resolve_left ((Fp.isSquare_iff _).not.1 first), by rw [difference, ← norm]; ring⟩

/-- Otherwise the norm has a root, one of the two halves is a square, and the root of that is the real part. -/
theorem Fp2.sqrtCandidate_of_not_real (notReal : x.c1 ≠ Fp.zero) :
    ∃ r, Fp2.sqrtCandidate x = some r ∧ Fp2.mul r r = x := by
  obtain ⟨re, im⟩ := (Fp2.mul_self_eq_iff y x).1 root
  have two := two_ne_zero_mod
  have imaginary : Fp.toZMod x.c1 ≠ 0 := Fp.toZMod_eq_zero_iff.not.2 notReal
  have normSquare : IsSquare (Fp.toZMod (Fp2.norm x)) :=
    ⟨Fp.toZMod y.c0 ^ 2 + Fp.toZMod y.c1 ^ 2, by rw [Fp2.toZMod_norm, ← re, ← im]; ring⟩
  obtain ⟨l, rootOfNorm, normOf⟩ := Fp.exists_sqrt normSquare
  rw [Fp2.toZMod_norm] at normOf
  obtain ⟨d, chosen, square, half⟩ := Fp2.exists_chosen_half root normOf
  have nonzero := half_ne_zero imaginary half
  obtain ⟨x₀, rootOfHalf, real⟩ := Fp.exists_sqrt square
  have twice : Fp.toZMod (Fp.scale x₀ 2) = 2 * Fp.toZMod x₀ := by rw [Fp.toZMod_scale, Nat.cast_two, mul_comm]
  have divisor : Fp.toZMod (Fp.scale x₀ 2) ≠ 0 := by
    rw [twice]
    exact mul_ne_zero two fun zero => nonzero (by rw [← real, zero, zero_pow two_ne_zero])
  obtain ⟨x₁, quotient, product⟩ := Fp.exists_quotient x.c1 divisor
  rw [twice] at product
  refine ⟨⟨x₀, x₁⟩, ?_, (Fp2.mul_self_eq_iff _ x).2 ⟨root_of_half two nonzero half real product, product⟩⟩
  exact Fp2.sqrtCandidate_of_steps notReal ((Fp.isSquare_iff _).2 normSquare) rootOfNorm chosen rootOfHalf quotient

theorem Fp2.exists_sqrtCandidate : ∃ r, Fp2.sqrtCandidate x = some r ∧ Fp2.mul r r = x := by
  by_cases real : x.c1 = Fp.zero
  · exact Fp2.sqrtCandidate_of_real root real
  · exact Fp2.sqrtCandidate_of_not_real root real

end

/-! ### The sign (R166, R214) -/

theorem Fp.big_iff (y : Fp) : Fp.big y = true ↔ Config.p < 2 * y.val := decide_eq_true_iff

theorem Fp.neg_val {y : Fp} (nonzero : y ≠ Fp.zero) : (Fp.neg y).val = Config.p - y.val := by
  have positive := Nat.pos_of_ne_zero ((Fp.eq_zero_iff y).not.1 nonzero)
  exact Nat.mod_eq_of_lt (Nat.sub_lt (y.val.zero_le.trans_lt y.isLt) positive)

theorem Fp.neg_eq_zero_iff (y : Fp) : Fp.neg y = Fp.zero ↔ y = Fp.zero := by
  rw [← Fp.toZMod_eq_zero_iff, Fp.toZMod_neg, neg_eq_zero, Fp.toZMod_eq_zero_iff]

theorem Fp.not_big_neg {y : Fp} (big : Fp.big y = true) : Fp.big (Fp.neg y) = false := by
  have nonzero : y ≠ Fp.zero := by
    rintro rfl
    cases big
  rw [Fp.big_iff] at big
  rw [← Bool.not_eq_true, Fp.big_iff, Fp.neg_val nonzero]
  omega

theorem Fp2.not_big_neg {r : Fp2} (big : Fp2.big r = true) : Fp2.big (Fp2.neg r) = false := by
  simp only [Fp2.big, Fp2.neg, Fp.isZero_iff, Fp.neg_eq_zero_iff] at big ⊢
  split_ifs at big ⊢ <;> exact Fp.not_big_neg big

theorem Fp2.not_big_iff (r : Fp2) : Fp2.big r = false ↔
    if r.c1.val = 0 then 2 * r.c0.val ≤ Config.p else 2 * r.c1.val ≤ Config.p := by
  rw [← Bool.not_eq_true, Fp2.big]
  simp only [Fp.isZero_iff, Fp.eq_zero_iff]
  split_ifs <;> rw [Fp.big_iff, Nat.not_lt]

/-! ### The root of R213 -/

theorem Fp2.mul_neg_self (r : Fp2) : Fp2.mul (Fp2.neg r) (Fp2.neg r) = Fp2.mul r r := by
  refine Fp2.ext_toZMod ?_ ?_ <;> simp [Fp2.mul, Fp2.neg]

theorem Fp2.sqrt_squares_not_big {x r : Fp2} (answer : Fp2.sqrt x = some r) :
    Fp2.mul r r = x ∧ Fp2.big r = false := by
  rw [Fp2.sqrt] at answer
  split_ifs at answer with zero
  · cases answer
    rw [(Fp2.isZero_iff x).1 zero]
    exact ⟨rfl, rfl⟩
  · obtain ⟨c, -, verified⟩ := Option.bind_eq_some_iff.1 answer
    split_ifs at verified with squares big <;> cases verified
    · exact ⟨(Fp2.mul_neg_self c).trans ((Fp2.eq_iff _ x).1 squares), Fp2.not_big_neg big⟩
    · exact ⟨(Fp2.eq_iff _ x).1 squares, Bool.not_eq_true _ ▸ big⟩

theorem Fp2.sqrt_ne_none [Fact (Nat.Prime Config.p)] {x y : Fp2} (root : Fp2.mul y y = x) : Fp2.sqrt x ≠ none := by
  obtain ⟨r, candidate, squares⟩ := Fp2.exists_sqrtCandidate root
  have verified : Fp2.eq (Fp2.sqr r) x = true := (Fp2.eq_iff _ x).2 squares
  rw [Fp2.sqrt, candidate, Option.bind_some, if_pos verified]
  split <;> exact Option.some_ne_none _

end Sys2Proof

namespace Sys2Proof.Machine

/-! ### The statement -/

/-- Settles O12: FP.SQRT and FP2.SQRT answer as their functions do, and that of Fp2 has a value just for the squares. -/
theorem squareRoots : Obligations.SquareRoots := by
  unfold Obligations.SquareRoots
  intro s
  refine ⟨fun a b x held => ?_, fun a b x held => ?_⟩
  · have readB : s.readF b = .ok x := (readReg_eq_ok 2 s.f b x).2 held
    refine ⟨?_, ?_⟩
    · rintro r rfl squares
      exact attempt1_of_some readB .noSqrt (s.setF a) (if_pos squares)
    · rintro r rfl noRoot
      exact attempt1_of_none readB .noSqrt (s.setF a) (if_neg noRoot)
  · have readB : s.readQ b = .ok x := (readReg_eq_ok 3 s.q b x).2 held
    have : Fact (Nat.Prime Config.p) := ⟨prime_modulus⟩
    have completes {r : Fp2} (answer : Fp2.sqrt x = some r) :=
      attempt1_of_some (s := s) readB .noSqrt (s.setQ a) answer
    have faults (noRoot : Fp2.sqrt x = none) :=
      attempt1_of_none (s := s) readB .noSqrt (s.setQ a) noRoot
    refine ⟨fun r answer => ?_, faults, fun y root => ?_, fun noRoot => ?_⟩
    · obtain ⟨squares, notBig⟩ := Fp2.sqrt_squares_not_big answer
      exact ⟨squares, notBig, completes answer⟩
    · obtain ⟨r, answer⟩ := Option.ne_none_iff_exists'.1 (Fp2.sqrt_ne_none root)
      obtain ⟨squares, notBig⟩ := Fp2.sqrt_squares_not_big answer
      exact ⟨r, squares, (Fp2.not_big_iff r).1 notBig, completes answer⟩
    · exact faults (Option.eq_none_iff_forall_ne_some.2 fun r answer => noRoot r (Fp2.sqrt_squares_not_big answer).1)

end Sys2Proof.Machine
end

section
/-! PROOFS. The tower over Fp as rings of Mathlib: Fp2 as `Fp[u]/(u² + 1)` (spec/42_fp2.md R200) and Fp6 as
`Fp2[v]/(v³ - ξ)` (spec/43_fp6.md R250), where powers and inverses follow the laws of a commutative ring. -/

namespace Sys2Proof

/-! ### Repeated products -/

/-- A map that takes `mul` to the product of a monoid takes a left fold over copies to the power. -/
theorem map_foldl_replicate {α M : Type} [Monoid M] {mul : α → α → α} {φ : α → M}
    (map_mul : ∀ x y, φ (mul x y) = φ x * φ y) (a z : α) (e : Nat) :
    φ ((List.replicate e a).foldl mul z) = φ z * φ a ^ e := by
  induction e generalizing z with
  | zero => rw [List.replicate_zero, List.foldl_nil, pow_zero, mul_one]
  | succ e ih => rw [List.replicate_succ, List.foldl_cons, ih, map_mul, pow_succ', mul_assoc]

/-- Square-and-multiply is the repeated product where the operation is that of a monoid (R157, R205). -/
theorem powBy_eq_foldl {α M : Type} [Monoid M] {mul : α → α → α} {one : α} {φ : α → M} (injective : φ.Injective)
    (map_one : φ one = 1) (map_mul : ∀ x y, φ (mul x y) = φ x * φ y) (a : α) (e : Nat) :
    powBy mul one a e = (List.replicate e a).foldl mul one :=
  injective (by rw [map_powBy map_one map_mul, map_foldl_replicate map_mul, map_one, one_mul])

/-! ### Fp2 -/

/-- `Fp[u]/(u² + 1)` (R200). -/
abbrev Fp2Ring : Type := QuadraticAlgebra (ZMod Config.p) (-1) 0

/-- The element of the ring with the same coordinates. -/
def Fp2.toRing (x : Fp2) : Fp2Ring := ⟨Fp.toZMod x.c0, Fp.toZMod x.c1⟩

theorem Fp2.toRing_injective : Function.Injective Fp2.toRing := fun _ _ same =>
  Fp2.ext_toZMod (congrArg QuadraticAlgebra.re same) (congrArg QuadraticAlgebra.im same)

@[simp] theorem Fp2.toRing_inj {x y : Fp2} : Fp2.toRing x = Fp2.toRing y ↔ x = y := Fp2.toRing_injective.eq_iff

@[simp] theorem Fp2.toRing_zero : Fp2.toRing Fp2.zero = 0 :=
  QuadraticAlgebra.ext Fp.toZMod_zero Fp.toZMod_zero

@[simp] theorem Fp2.toRing_one : Fp2.toRing Fp2.one = 1 := QuadraticAlgebra.ext Fp.toZMod_one Fp.toZMod_zero

@[simp] theorem Fp2.toRing_add (x y : Fp2) : Fp2.toRing (Fp2.add x y) = Fp2.toRing x + Fp2.toRing y :=
  QuadraticAlgebra.ext (Fp.toZMod_add _ _) (Fp.toZMod_add _ _)

@[simp] theorem Fp2.toRing_neg (x : Fp2) : Fp2.toRing (Fp2.neg x) = -Fp2.toRing x :=
  QuadraticAlgebra.ext (Fp.toZMod_neg _) (Fp.toZMod_neg _)

@[simp] theorem Fp2.toRing_sub (x y : Fp2) : Fp2.toRing (Fp2.sub x y) = Fp2.toRing x - Fp2.toRing y :=
  QuadraticAlgebra.ext (Fp.toZMod_sub _ _) (Fp.toZMod_sub _ _)

@[simp] theorem Fp2.toRing_mul (x y : Fp2) : Fp2.toRing (Fp2.mul x y) = Fp2.toRing x * Fp2.toRing y := by
  ext <;> simp [Fp2.toRing, Fp2.mul, sub_eq_add_neg]

@[simp] theorem Fp2.toRing_sqr (x : Fp2) : Fp2.toRing (Fp2.sqr x) = Fp2.toRing x ^ 2 := by
  rw [Fp2.sqr, Fp2.toRing_mul, sq]

@[simp] theorem Fp2.toRing_mulxi (x : Fp2) : Fp2.toRing (Fp2.mulxi x) = Fp2.toRing xi * Fp2.toRing x := by
  ext <;> simp [Fp2.toRing, Fp2.mulxi, xi, mkFp2, sub_eq_add_neg, add_comm]

/-! ### Fp6 -/

theorem Fp6.ext_toRing {x y : Fp6} (h₀ : Fp2.toRing x.c0 = Fp2.toRing y.c0)
    (h₁ : Fp2.toRing x.c1 = Fp2.toRing y.c1) (h₂ : Fp2.toRing x.c2 = Fp2.toRing y.c2) : x = y :=
  congr (congrArg₂ Fp6.mk (Fp2.toRing_inj.1 h₀) (Fp2.toRing_inj.1 h₁)) (Fp2.toRing_inj.1 h₂)

section
open Polynomial

/-- `Fp2[v]/(v³ - ξ)` (R250). -/
abbrev Fp6Ring : Type := AdjoinRoot (X ^ 3 - C (Fp2.toRing xi))

/-- The polynomial of degree below 3 with the coordinates as coefficients. -/
noncomputable def Fp6.toPolynomial (x : Fp6) : Fp2Ring[X] :=
  C (Fp2.toRing x.c2) * X ^ 2 + C (Fp2.toRing x.c1) * X + C (Fp2.toRing x.c0)

theorem Fp6.toPolynomial_injective : Function.Injective Fp6.toPolynomial := fun x y same => by
  have coefficient (n : Nat) : x.toPolynomial.coeff n = y.toPolynomial.coeff n := by rw [same]
  refine Fp6.ext_toRing ?_ ?_ ?_
  · simpa [Fp6.toPolynomial] using coefficient 0
  · simpa [Fp6.toPolynomial, coeff_X, coeff_C] using coefficient 1
  · simpa [Fp6.toPolynomial, coeff_X, coeff_C] using coefficient 2

/-- The class of that polynomial. -/
noncomputable def Fp6.toRing (x : Fp6) : Fp6Ring := AdjoinRoot.mk _ x.toPolynomial

/-- A class holds one polynomial of degree below 3, the remainder modulo `v³ - ξ`. -/
theorem Fp6.toRing_injective : Function.Injective Fp6.toRing := fun x y same => by
  have nontrivial : Nontrivial (ZMod Config.p) := ZMod.nontrivial_iff.2 (by decide)
  have monic : (X ^ 3 - C (Fp2.toRing xi)).Monic := monic_X_pow_sub_C _ three_ne_zero
  have reduced (z : Fp6) : z.toPolynomial %ₘ (X ^ 3 - C (Fp2.toRing xi)) = z.toPolynomial := by
    rw [modByMonic_eq_self_iff monic, degree_X_pow_sub_C three_pos]
    exact degree_quadratic_lt
  have remainders := congrArg (AdjoinRoot.modByMonicHom monic) same
  rw [Fp6.toRing, Fp6.toRing, AdjoinRoot.modByMonicHom_mk, AdjoinRoot.modByMonicHom_mk, reduced, reduced] at remainders
  exact Fp6.toPolynomial_injective remainders

@[simp] theorem Fp6.toRing_inj {x y : Fp6} : Fp6.toRing x = Fp6.toRing y ↔ x = y := Fp6.toRing_injective.eq_iff

@[simp] theorem Fp6.toRing_zero : Fp6.toRing Fp6.zero = 0 := by simp [Fp6.toRing, Fp6.toPolynomial, Fp6.zero]

@[simp] theorem Fp6.toRing_one : Fp6.toRing Fp6.one = 1 := by simp [Fp6.toRing, Fp6.toPolynomial, Fp6.one]

@[simp] theorem Fp6.toRing_add (x y : Fp6) : Fp6.toRing (Fp6.add x y) = Fp6.toRing x + Fp6.toRing y := by
  simp only [Fp6.toRing, Fp6.toPolynomial, Fp6.add, Fp2.toRing_add, map_add, map_mul]
  ring

@[simp] theorem Fp6.toRing_neg (x : Fp6) : Fp6.toRing (Fp6.neg x) = -Fp6.toRing x := by
  simp only [Fp6.toRing, Fp6.toPolynomial, Fp6.neg, Fp2.toRing_neg, map_add, map_mul, map_neg]
  ring

@[simp] theorem Fp6.toRing_sub (x y : Fp6) : Fp6.toRing (Fp6.sub x y) = Fp6.toRing x - Fp6.toRing y := by
  simp only [Fp6.toRing, Fp6.toPolynomial, Fp6.sub, Fp2.toRing_sub, map_add, map_mul, map_sub]
  ring

/-- The schoolbook product (R251) is that of the polynomials less a multiple of `v³ - ξ`. -/
@[simp] theorem Fp6.toRing_mul (x y : Fp6) : Fp6.toRing (Fp6.mul x y) = Fp6.toRing x * Fp6.toRing y := by
  rw [eq_comm, Fp6.toRing, Fp6.toRing, Fp6.toRing, ← map_mul, AdjoinRoot.mk_eq_mk]
  refine ⟨C (Fp2.toRing x.c1 * Fp2.toRing y.c2 + Fp2.toRing x.c2 * Fp2.toRing y.c1) +
    C (Fp2.toRing x.c2 * Fp2.toRing y.c2) * X, ?_⟩
  simp only [Fp6.toPolynomial, Fp6.mul, Fp2.toRing_add, Fp2.toRing_mul, Fp2.toRing_mulxi, C_add, C_mul]
  ring

@[simp] theorem Fp6.toRing_sqr (x : Fp6) : Fp6.toRing (Fp6.sqr x) = Fp6.toRing x ^ 2 := by
  rw [Fp6.sqr, Fp6.toRing_mul, sq]

@[simp] theorem Fp6.toRing_mulv (x : Fp6) : Fp6.toRing (Fp6.mulv x) = AdjoinRoot.root _ * Fp6.toRing x := by
  rw [eq_comm, Fp6.toRing, Fp6.toRing, ← AdjoinRoot.mk_X, ← map_mul, AdjoinRoot.mk_eq_mk]
  refine ⟨C (Fp2.toRing x.c2), ?_⟩
  simp only [Fp6.toPolynomial, Fp6.mulv, Fp2.toRing_mulxi, C_mul]
  ring

end

/-! ### Fp12 -/

theorem Fp12.ext_toRing {x y : Fp12} (h₀ : Fp6.toRing x.c0 = Fp6.toRing y.c0)
    (h₁ : Fp6.toRing x.c1 = Fp6.toRing y.c1) : x = y :=
  congrArg₂ Fp12.mk (Fp6.toRing_inj.1 h₀) (Fp6.toRing_inj.1 h₁)

/-! ### Inverses -/

theorem Fp2.norm_val (x : Fp2) : (Fp2.norm x).val = (x.c0.val ^ 2 + x.c1.val ^ 2) % Config.p := by
  rw [eq_comm, ← Fp.natCast_eq_toZMod_iff, Fp2.toZMod_norm, Nat.cast_add, Nat.cast_pow, Nat.cast_pow, Fp.toZMod_val,
    Fp.toZMod_val]

theorem Fp.exists_inv_of_coprime {x : Fp} (coprime : Nat.Coprime x.val Config.p) :
    ∃ r, Fp.inv x = some r ∧ Fp.toZMod x * Fp.toZMod r = 1 := by
  have nonzero : x ≠ Fp.zero := by
    rintro rfl
    exact absurd coprime (by decide)
  obtain ⟨r, value, product⟩ := Fp.exists_inv nonzero
  exact ⟨r, value, by rw [product, coprime.symm.gcd_eq_one, Nat.cast_one]⟩

theorem Fp2.exists_inv {x : Fp2} (coprime : Nat.Coprime (Fp2.norm x).val Config.p) :
    ∃ y, Fp2.inv x = some y ∧ Fp2.mul x y = Fp2.one := by
  obtain ⟨r, value, product⟩ := Fp.exists_inv_of_coprime coprime
  rw [Fp2.toZMod_norm] at product
  refine ⟨_, by rw [Fp2.inv, value, Option.map_some], Fp2.ext_toZMod ?_ ?_⟩ <;>
    simp only [Fp2.mul, Fp2.one, Fp.toZMod_add, Fp.toZMod_sub, Fp.toZMod_mul, Fp.toZMod_neg, Fp.toZMod_one,
      Fp.toZMod_zero]
  · linear_combination product
  · ring

theorem Fp6.toRing_norm (x : Fp6) : Fp2.toRing (Fp6.norm x) =
    Fp2.toRing x.c0 ^ 3 + Fp2.toRing xi * Fp2.toRing x.c1 ^ 3 + Fp2.toRing xi ^ 2 * Fp2.toRing x.c2 ^ 3 -
      3 * Fp2.toRing xi * Fp2.toRing x.c0 * Fp2.toRing x.c1 * Fp2.toRing x.c2 := by
  simp only [Fp6.norm, Fp6.invT0, Fp6.invT1, Fp6.invT2, Fp2.toRing_add, Fp2.toRing_sub, Fp2.toRing_mul,
    Fp2.toRing_sqr, Fp2.toRing_mulxi]
  ring

/-- `t0`, `t1` and `t2` of R256 are the coordinates of a factor by which `x` gives its norm. -/
theorem Fp6.exists_inv {x : Fp6} (coprime : Nat.Coprime (Fp2.norm (Fp6.norm x)).val Config.p) :
    ∃ y, Fp6.inv x = some y ∧ Fp6.mul x y = Fp6.one := by
  obtain ⟨r, value, product⟩ := Fp2.exists_inv coprime
  rw [← Fp2.toRing_inj, Fp2.toRing_mul, Fp6.toRing_norm, Fp2.toRing_one] at product
  refine ⟨_, by rw [Fp6.inv, value, Option.map_some], Fp6.ext_toRing ?_ ?_ ?_⟩ <;>
    simp only [Fp6.mul, Fp6.one, Fp6.invT0, Fp6.invT1, Fp6.invT2, Fp2.toRing_add, Fp2.toRing_sub, Fp2.toRing_mul,
      Fp2.toRing_sqr, Fp2.toRing_mulxi, Fp2.toRing_one, Fp2.toRing_zero]
  · linear_combination product
  · ring
  · ring

theorem Fp12.toRing_norm (x : Fp12) : Fp6.toRing (Fp12.norm x) =
    Fp6.toRing x.c0 ^ 2 - AdjoinRoot.root _ * Fp6.toRing x.c1 ^ 2 := by
  rw [Fp12.norm, Fp6.toRing_sub, Fp6.toRing_mulv, Fp6.toRing_sqr, Fp6.toRing_sqr]

/-- The conjugate is a factor by which `x` gives its norm (R306). -/
theorem Fp12.exists_inv {x : Fp12} (coprime : Nat.Coprime (Fp2.norm (Fp6.norm (Fp12.norm x))).val Config.p) :
    ∃ y, Fp12.inv x = some y ∧ Fp12.mul x y = Fp12.one := by
  obtain ⟨r, value, product⟩ := Fp6.exists_inv coprime
  rw [← Fp6.toRing_inj, Fp6.toRing_mul, Fp12.toRing_norm, Fp6.toRing_one] at product
  refine ⟨_, by rw [Fp12.inv, value, Option.map_some], Fp12.ext_toRing ?_ ?_⟩ <;>
    simp only [Fp12.mul, Fp12.one, Fp6.toRing_add, Fp6.toRing_mul, Fp6.toRing_mulv, Fp6.toRing_neg, Fp6.toRing_one,
      Fp6.toRing_zero]
  · linear_combination product
  · ring

theorem Fp2.inv_zero : Fp2.inv Fp2.zero = none := by
  have norm : Fp2.norm Fp2.zero = Fp.zero := rfl
  rw [Fp2.inv, norm, Fp.inv_zero, Option.map_none]

theorem Fp6.inv_zero : Fp6.inv Fp6.zero = none := by
  have norm : Fp6.norm Fp6.zero = Fp2.zero := rfl
  rw [Fp6.inv, norm, Fp2.inv_zero, Option.map_none]

theorem Fp12.inv_zero : Fp12.inv Fp12.zero = none := by
  have norm : Fp12.norm Fp12.zero = Fp6.zero := rfl
  rw [Fp12.inv, norm, Fp6.inv_zero, Option.map_none]

end Sys2Proof
end

section
/-! PROOFS. The Fp2 instructions that compute a value (O13), powers in Fp2 (O34), and inverses and quotients in the
tower (O16, O17). -/

namespace Sys2Proof

/-! ### The product of R203, in integers -/

theorem Fp.intCast_eq_toZMod_iff (n : Int) (x : Fp) : (n : ZMod Config.p) = Fp.toZMod x ↔ n % Config.p = x.val := by
  rw [Fp.toZMod, ← Int.cast_natCast x.val, ZMod.intCast_eq_intCast_iff',
    Int.emod_eq_of_lt (Int.natCast_nonneg x.val) (Int.ofNat_lt.2 x.isLt)]

theorem Fp2.mul_val_c0 (x y : Fp2) : ((Fp2.mul x y).c0.val : Int) =
    ((x.c0.val : Int) * y.c0.val - (x.c1.val : Int) * y.c1.val) % Config.p := by
  rw [eq_comm, ← Fp.intCast_eq_toZMod_iff]
  simp [Fp2.mul, Fp.toZMod_val]

theorem Fp2.mul_val_c1 (x y : Fp2) : ((Fp2.mul x y).c1.val : Int) =
    ((x.c0.val : Int) * y.c1.val + (x.c1.val : Int) * y.c0.val) % Config.p := by
  rw [eq_comm, ← Fp.intCast_eq_toZMod_iff]
  simp [Fp2.mul, Fp.toZMod_val]

/-! ### Powers and inverses -/

/-- Settles O34: square-and-multiply and the repeated product are the same power in the ring. -/
theorem fp2PowersAreProducts : Obligations.Fp2PowersAreProducts := by
  unfold Obligations.Fp2PowersAreProducts
  exact powBy_eq_foldl Fp2.toRing_injective Fp2.toRing_one Fp2.toRing_mul

/-- Settles O17: at each level the inverse is that of the norm times the factor by which the element gives its norm. -/
theorem towerInverseIsInverse : Obligations.TowerInverseIsInverse := by
  unfold Obligations.TowerInverseIsInverse
  simp only [← Fp2.norm_val]
  exact ⟨fun _ => Fp2.exists_inv, fun _ _ norm coprime => Fp6.exists_inv (norm ▸ coprime),
    fun _ _ norm coprime => Fp12.exists_inv (norm ▸ coprime)⟩

end Sys2Proof

namespace Sys2Proof.Machine

/-- Settles O13: each writes what its function of spec/42_fp2.md section 1 gives. -/
theorem fp2ArithmeticResults : Obligations.Fp2ArithmeticResults := by
  unfold Obligations.Fp2ArithmeticResults
  intro s
  refine ⟨fun a imm => rfl, fun a b x held => ?_, fun a b c x y heldB heldC => ?_, fun a b c x n heldB heldC => ?_,
    fun a b c x y heldB heldC => ?_, fun a b x held => ?_⟩
  · have readB : s.readQ b = .ok x := (readReg_eq_ok 3 s.q b x).2 held
    exact ⟨compute1_of_ok readB id (s.setQ a), compute1_of_ok readB Fp2.neg (s.setQ a),
      compute1_of_ok readB Fp2.sqr (s.setQ a), compute1_of_ok readB Fp2.cube (s.setQ a),
      compute1_of_ok readB Fp2.halve (s.setQ a)⟩
  · have readB : s.readQ b = .ok x := (readReg_eq_ok 3 s.q b x).2 heldB
    have readC : s.readQ c = .ok y := (readReg_eq_ok 3 s.q c y).2 heldC
    exact ⟨compute2_of_ok readB readC Fp2.add (s.setQ a), compute2_of_ok readB readC Fp2.sub (s.setQ a),
      Fp2.mul x y, Fp2.mul_val_c0 x y, Fp2.mul_val_c1 x y, compute2_of_ok readB readC Fp2.mul (s.setQ a)⟩
  · have readB : s.readQ b = .ok x := (readReg_eq_ok 3 s.q b x).2 heldB
    have readC : s.readK c = .ok n := (readReg_eq_ok 1 s.k c n).2 heldC
    exact ⟨compute2_of_ok readB readC _ (s.setQ a), compute2_of_ok readB readC _ (s.setQ a)⟩
  · have readB : s.readF b = .ok x := (readReg_eq_ok 2 s.f b x).2 heldB
    have readC : s.readF c = .ok y := (readReg_eq_ok 2 s.f c y).2 heldC
    exact compute2_of_ok readB readC Fp2.mk (s.setQ a)
  · have readB : s.readQ b = .ok x := (readReg_eq_ok 3 s.q b x).2 held
    exact ⟨compute1_of_ok readB _ (s.setF a), compute1_of_ok readB _ (s.setF a)⟩

/-- The inverse of a source and the quotient by it, a quotient being a product by the inverse: both complete where the
inverse has a value and raise INV_ZERO elsewhere, which is so at zero. -/
theorem inverseAndQuotient {α : Type} {s : State} {x y : Except Trap α} {u v : α} (first : x = .ok u)
    (second : y = .ok v) {inv : α → Option α} (mul : α → α → α) {zero : α} (inv_zero : inv zero = none)
    (write : α → State) :
    (∀ r, inv v = some r → attempt1 s y inv .invZero write = .next (write r).advance ∧
      attempt2 s x y (fun a b => (inv b).map (mul a)) .invZero write = .next (write (mul u r)).advance) ∧
    (inv v = none ∨ v = zero → attempt1 s y inv .invZero write = .next (s.raise ⟨.invZero, 0⟩) ∧
      attempt2 s x y (fun a b => (inv b).map (mul a)) .invZero write = .next (s.raise ⟨.invZero, 0⟩)) := by
  refine ⟨fun r value => ⟨?_, ?_⟩, fun noInverse => ?_⟩
  · exact attempt1_of_some second .invZero write value
  · exact attempt2_of_some first second .invZero write (by rw [value, Option.map_some])
  · have noValue : inv v = none := noInverse.elim id fun isZero => isZero ▸ inv_zero
    exact ⟨attempt1_of_none second .invZero write noValue,
      attempt2_of_none first second .invZero write (by rw [noValue, Option.map_none])⟩

/-- Settles O16: in the three fields the quotient is the product by the inverse, and zero has no inverse. -/
theorem towerInverseAndQuotient : Obligations.TowerInverseAndQuotient := by
  unfold Obligations.TowerInverseAndQuotient
  intro s
  refine ⟨fun a b c x y heldB heldC => ?_, fun a b c x y heldB heldC => ?_, fun a b c x y heldB heldC => ?_⟩
  · exact inverseAndQuotient ((readReg_eq_ok 3 s.q b x).2 heldB) ((readReg_eq_ok 3 s.q c y).2 heldC) Fp2.mul
      Fp2.inv_zero (s.setQ a)
  · exact inverseAndQuotient ((readReg_eq_ok 4 s.s b x).2 heldB) ((readReg_eq_ok 4 s.s c y).2 heldC) Fp6.mul
      Fp6.inv_zero (s.setS a)
  · exact inverseAndQuotient ((readReg_eq_ok 5 s.t b x).2 heldB) ((readReg_eq_ok 5 s.t c y).2 heldC) Fp12.mul
      Fp12.inv_zero (s.setT a)

end Sys2Proof.Machine
end

section
/-! PROOFS. Fp12 as `Fp6[w]/(w² - v)` (spec/44_fp12.md R300), powers in Fp6 and Fp12 (O35), and the Fp6 instructions
that compute a value (O14). -/

namespace Sys2Proof

/-! ### The product by `ξ` (R209) -/

theorem Fp2.mulxi_eq_mul (x : Fp2) : Fp2.mulxi x = Fp2.mul xi x := by
  rw [← Fp2.toRing_inj, Fp2.toRing_mulxi, Fp2.toRing_mul]

/-! ### Fp12 as a ring -/

/-- `Fp6[w]/(w² - v)` (R300), with `v` the root that Fp6 adjoins. -/
abbrev Fp12Ring : Type := QuadraticAlgebra Fp6Ring (AdjoinRoot.root _) 0

/-- The element of the ring with the same coordinates. -/
noncomputable def Fp12.toRing (x : Fp12) : Fp12Ring := ⟨Fp6.toRing x.c0, Fp6.toRing x.c1⟩

theorem Fp12.toRing_injective : Function.Injective Fp12.toRing := fun _ _ same =>
  Fp12.ext_toRing (congrArg QuadraticAlgebra.re same) (congrArg QuadraticAlgebra.im same)

@[simp] theorem Fp12.toRing_one : Fp12.toRing Fp12.one = 1 :=
  QuadraticAlgebra.ext Fp6.toRing_one Fp6.toRing_zero

/-- The product of R302 has `w² = v` substituted. -/
@[simp] theorem Fp12.toRing_mul (x y : Fp12) : Fp12.toRing (Fp12.mul x y) = Fp12.toRing x * Fp12.toRing y := by
  ext
  · simp [Fp12.toRing, Fp12.mul, mul_assoc]
  · simp [Fp12.toRing, Fp12.mul]

/-! ### Powers -/

/-- Settles O35: in each of the two rings square-and-multiply and the repeated product are the same power. -/
theorem upperTowerPowersAreProducts : Obligations.UpperTowerPowersAreProducts := by
  unfold Obligations.UpperTowerPowersAreProducts
  exact ⟨powBy_eq_foldl Fp6.toRing_injective Fp6.toRing_one Fp6.toRing_mul,
    powBy_eq_foldl Fp12.toRing_injective Fp12.toRing_one Fp12.toRing_mul⟩

end Sys2Proof

namespace Sys2Proof.Machine

/-! ### The Fp6 instructions -/

/-- An instruction with three sources that are read writes and goes on. -/
theorem compute3_of_ok {α β γ δ : Type} {s : State} {x : Except Trap α} {y : Except Trap β} {z : Except Trap γ}
    {u : α} {v : β} {w : γ} (first : x = .ok u) (second : y = .ok v) (third : z = .ok w) (f : α → β → γ → δ)
    (write : δ → State) : compute3 s x y z f write = .next (write (f u v w)).advance := by
  rw [first, second, third]
  rfl

/-- Settles O14: each writes what its function of spec/43_fp6.md section 1 gives, the product with that by `ξ` written
out. -/
theorem fp6ArithmeticResults : Obligations.Fp6ArithmeticResults := by
  unfold Obligations.Fp6ArithmeticResults
  intro s
  refine ⟨fun a imm => rfl, fun a b x held => ?_, fun a b c x y heldB heldC => ?_, fun a b c x n heldB heldC => ?_,
    fun a b c d x y z heldB heldC heldD => ?_, fun a b x held => ?_⟩
  · have readB : s.readS b = .ok x := (readReg_eq_ok 4 s.s b x).2 held
    exact ⟨compute1_of_ok readB id (s.setS a), compute1_of_ok readB Fp6.neg (s.setS a),
      compute1_of_ok readB Fp6.sqr (s.setS a), compute1_of_ok readB Fp6.cube (s.setS a),
      compute1_of_ok readB Fp6.halve (s.setS a)⟩
  · have readB : s.readS b = .ok x := (readReg_eq_ok 4 s.s b x).2 heldB
    have readC : s.readS c = .ok y := (readReg_eq_ok 4 s.s c y).2 heldC
    rw [← Fp2.mulxi_eq_mul, ← Fp2.mulxi_eq_mul]
    exact ⟨compute2_of_ok readB readC Fp6.add (s.setS a), compute2_of_ok readB readC Fp6.sub (s.setS a),
      compute2_of_ok readB readC Fp6.mul (s.setS a)⟩
  · have readB : s.readS b = .ok x := (readReg_eq_ok 4 s.s b x).2 heldB
    have readC : s.readK c = .ok n := (readReg_eq_ok 1 s.k c n).2 heldC
    exact ⟨compute2_of_ok readB readC _ (s.setS a), compute2_of_ok readB readC _ (s.setS a)⟩
  · have readB : s.readQ b = .ok x := (readReg_eq_ok 3 s.q b x).2 heldB
    have readC : s.readQ c = .ok y := (readReg_eq_ok 3 s.q c y).2 heldC
    have readD : s.readQ d = .ok z := (readReg_eq_ok 3 s.q d z).2 heldD
    exact compute3_of_ok readB readC readD Fp6.mk (s.setS a)
  · have readB : s.readS b = .ok x := (readReg_eq_ok 4 s.s b x).2 held
    exact ⟨compute1_of_ok readB _ (s.setQ a), compute1_of_ok readB _ (s.setQ a), compute1_of_ok readB _ (s.setQ a)⟩

end Sys2Proof.Machine
end

section
/-! PROOFS. The Frobenius map (spec/44_fp12.md R315 to R317, O39): its coefficients are powers of `ξ`, each the
conjugate of the one before times the first, and it acts by coordinates. -/

namespace Sys2Proof

/-! ### Fp2: powers and the conjugate -/

@[simp] theorem Fp2.toRing_pow (x : Fp2) (e : Nat) : Fp2.toRing (Fp2.pow x e) = Fp2.toRing x ^ e :=
  map_powBy Fp2.toRing_one Fp2.toRing_mul x e

/-- R208's conjugate is the involution of the ring. -/
@[simp] theorem Fp2.toRing_conj (x : Fp2) : Fp2.toRing (Fp2.conj x) = star (Fp2.toRing x) := by
  ext <;> simp [Fp2.toRing, Fp2.conj]

theorem Fp2.mul_one_eq (x : Fp2) : Fp2.mul x Fp2.one = x := by simp [← Fp2.toRing_inj]

theorem Fp2.mul_neg_one (x : Fp2) : Fp2.mul x (Fp2.neg Fp2.one) = Fp2.neg x := by simp [← Fp2.toRing_inj]

theorem Fp2.neg_neg_eq (x : Fp2) : Fp2.neg (Fp2.neg x) = x := by simp [← Fp2.toRing_inj]

/-! ### The coefficients of R316 -/

/-- `p` is 1 modulo 6, so the exponents of R316 are whole numbers. -/
theorem exists_modulus_pow_eq (n : Nat) : ∃ k, Config.p ^ n = 6 * k + 1 := by
  have residue : Config.p ^ n % 6 = 1 := by
    rw [Nat.pow_mod, (by decide : Config.p % 6 = 1), one_pow, Nat.one_mod_eq_one.2 (by decide)]
  exact ⟨Config.p ^ n / 6, by omega⟩

/-- The exponent of R316 for `n + 1`, from that for `n`. -/
theorem exponent_succ (n : Nat) :
    (Config.p ^ (n + 1) - 1) / 6 = (Config.p ^ n - 1) / 6 * Config.p + (Config.p - 1) / 6 := by
  obtain ⟨k, power⟩ := exists_modulus_pow_eq n
  rw [pow_succ, power, Config.p]
  omega

/-- Raising to the power `p` conjugates `ξ`. -/
theorem xi_pow_modulus : Fp2.pow xi Config.p = Fp2.conj xi := by decide +kernel

/-- The first entry of the table is its defining power. -/
theorem xi_pow_eq_frobG12_one : Fp2.pow xi ((Config.p - 1) / 6) = frobG12 1 := by decide +kernel

/-- The defining powers of the coefficients of Fp12 follow one another as the powers of `p` do. -/
theorem xi_pow_exponent_succ (n : Nat) : Fp2.pow xi ((Config.p ^ (n + 1) - 1) / 6) =
    Fp2.mul (Fp2.conj (Fp2.pow xi ((Config.p ^ n - 1) / 6))) (frobG12 1) := by
  have conjugates : Fp2.toRing xi ^ Config.p = star (Fp2.toRing xi) := by
    rw [← Fp2.toRing_pow, xi_pow_modulus, Fp2.toRing_conj]
  rw [← xi_pow_eq_frobG12_one, ← Fp2.toRing_inj, exponent_succ, Fp2.toRing_mul, Fp2.toRing_conj, Fp2.toRing_pow,
    Fp2.toRing_pow, Fp2.toRing_pow, pow_add, mul_comm _ Config.p, pow_mul, conjugates, star_pow]

/-- The table of R316 follows the same rule. -/
theorem frobG12_succ : ∀ n < 11, Fp2.mul (Fp2.conj (frobG12 n)) (frobG12 1) = frobG12 (n + 1) := by decide +kernel

/-- So every entry is the power that defines it. -/
theorem xi_pow_eq_frobG12 {n : Nat} (h : n ≤ 11) : Fp2.pow xi ((Config.p ^ n - 1) / 6) = frobG12 n := by
  induction n with
  | zero => rfl
  | succ n ih => rw [xi_pow_exponent_succ, ih (by omega), frobG12_succ n h]

/-- The tables of Fp6 hold squares and fourth powers of those of Fp12. -/
theorem frobG6_eq_sqr_frobG12 : ∀ m < 6,
    frobG6_1 m = Fp2.sqr (frobG12 m) ∧ frobG6_2 m = Fp2.sqr (Fp2.sqr (frobG12 m)) := by decide +kernel

theorem xi_pow_eq_frobG6 {m : Nat} (h : m < 6) : Fp2.pow xi ((Config.p ^ m - 1) / 3) = frobG6_1 m ∧
    Fp2.pow xi (2 * (Config.p ^ m - 1) / 3) = frobG6_2 m := by
  obtain ⟨square, fourth⟩ := frobG6_eq_sqr_frobG12 m h
  obtain ⟨k, power⟩ := exists_modulus_pow_eq m
  have third : (Config.p ^ m - 1) / 3 = (Config.p ^ m - 1) / 6 * 2 := by omega
  have twoThirds : 2 * (Config.p ^ m - 1) / 3 = (Config.p ^ m - 1) / 6 * 2 * 2 := by omega
  rw [square, fourth, ← xi_pow_eq_frobG12 (by omega : m ≤ 11), third, twoThirds]
  simp [← Fp2.toRing_inj, pow_mul]

/-! ### The map by coordinates -/

/-- Conjugation has period 2, which divides the period 6 of the map on Fp6. -/
theorem Fp2.frob_mod_six (x : Fp2) (n : Nat) : Fp2.frob x (n % 6) = Machine.conjugateIfOdd n x := by
  rw [Fp2.frob, Machine.conjugateIfOdd, Nat.mod_mod_of_dvd n (by decide : 2 ∣ 6)]
  rfl

/-- R315 and R317 written out. -/
theorem Fp12.powp_coordinates (x : Fp12) {n : Nat} (h : n ≤ 11) : Fp12.powp x n =
    ⟨⟨Machine.conjugateIfOdd n x.c0.c0, Fp2.mul (Machine.conjugateIfOdd n x.c0.c1) (frobG6_1 (n % 6)),
      Fp2.mul (Machine.conjugateIfOdd n x.c0.c2) (frobG6_2 (n % 6))⟩,
     ⟨Fp2.mul (Machine.conjugateIfOdd n x.c1.c0) (frobG12 n),
      Fp2.mul (Fp2.mul (Machine.conjugateIfOdd n x.c1.c1) (frobG6_1 (n % 6))) (frobG12 n),
      Fp2.mul (Fp2.mul (Machine.conjugateIfOdd n x.c1.c2) (frobG6_2 (n % 6))) (frobG12 n)⟩⟩ := by
  simp only [Fp12.powp, Fp6.frob, Fp6.mulFp2, Fp2.frob_mod_six, Nat.mod_eq_of_lt (Nat.lt_succ_of_le h)]

theorem Fp6.frob_zero (x : Fp6) : Fp6.frob x 0 = x :=
  congrArg₂ (Fp6.mk x.c0) (Fp2.mul_one_eq x.c1) (Fp2.mul_one_eq x.c2)

theorem Fp6.mulFp2_one (x : Fp6) : Fp6.mulFp2 x Fp2.one = x := by simp only [Fp6.mulFp2, Fp2.mul_one_eq]

theorem Fp6.mulFp2_neg_one (x : Fp6) : Fp6.mulFp2 x (Fp2.neg Fp2.one) = Fp6.neg x := by
  simp only [Fp6.mulFp2, Fp2.mul_neg_one, Fp6.neg]

theorem Fp12.powp_zero (x : Fp12) : Fp12.powp x 0 = x :=
  congrArg₂ Fp12.mk (Fp6.frob_zero x.c0) ((Fp6.mulFp2_one _).trans (Fp6.frob_zero x.c1))

/-- The coefficient of exponent 6 is -1 (R316), and those of Fp6 have come round. -/
theorem Fp12.powp_six (x : Fp12) : Fp12.powp x 6 = Fp12.conj x := by
  have coefficient : frobG12 6 = Fp2.neg Fp2.one := by decide +kernel
  rw [Fp12.powp, coefficient, Fp6.mulFp2_neg_one, Fp6.frob_zero, Fp6.frob_zero, Fp12.conj]

theorem Fp12.conj_conj (x : Fp12) : Fp12.conj (Fp12.conj x) = x := by
  simp only [Fp12.conj, Fp6.neg, Fp2.neg_neg_eq]

/-- Settles O39: the coefficients that the map multiplies by are the powers of `ξ` that define them. -/
theorem frobeniusMap : Obligations.FrobeniusMap := by
  unfold Obligations.FrobeniusMap
  refine ⟨fun x => ⟨Fp12.powp_zero x, Fp12.powp_six x, Fp12.conj_conj x⟩, ?_⟩
  rintro x n _ _ _ h rfl rfl rfl
  obtain ⟨first, second⟩ := xi_pow_eq_frobG6 (Nat.mod_lt n (by decide : 0 < 6))
  rw [Fp12.powp_coordinates x h, ← first, ← second, ← xi_pow_eq_frobG12 h]
  rfl

end Sys2Proof
end

section
/-! PROOFS. The Fp12 instructions that compute a value (O15) and those of the cyclotomic subgroup (O19). -/

namespace Sys2Proof

/-- The product by `v` (R258). -/
theorem Fp6.mulv_eq_mul (x : Fp6) : Fp6.mulv x = Fp6.mul ⟨Fp2.zero, Fp2.one, Fp2.zero⟩ x := by
  have root : Fp6.toRing ⟨Fp2.zero, Fp2.one, Fp2.zero⟩ = AdjoinRoot.root _ := by
    simp [Fp6.toRing, Fp6.toPolynomial]
  rw [← Fp6.toRing_inj, Fp6.toRing_mulv, Fp6.toRing_mul, root]

@[simp] theorem Fp12.toRing_pow (x : Fp12) (e : Nat) : Fp12.toRing (Fp12.pow x e) = Fp12.toRing x ^ e :=
  map_powBy Fp12.toRing_one Fp12.toRing_mul x e

theorem Fp12.pow_zero_eq (x : Fp12) : Fp12.pow x 0 = Fp12.one :=
  Fp12.toRing_injective (by simp)

theorem Fp12.pow_one_eq (x : Fp12) : Fp12.pow x 1 = x :=
  Fp12.toRing_injective (by simp)

/-- R318's test of membership. -/
theorem Fp12.inCyclotomic_iff (x : Fp12) : Fp12.inCyclotomic x = true ↔
    x ≠ Fp12.zero ∧ Fp12.mul (Fp12.powp x 4) x = Fp12.powp x 2 := by
  simp [Fp12.inCyclotomic, Fp12.isZero, Bool.eq_false_iff]

theorem Fp12.not_inCyclotomic_iff (x : Fp12) : Fp12.inCyclotomic x = false ↔
    x = Fp12.zero ∨ Fp12.mul (Fp12.powp x 4) x ≠ Fp12.powp x 2 := by
  rw [← Bool.not_eq_true, Fp12.inCyclotomic_iff, not_and_or, not_not]

end Sys2Proof

namespace Sys2Proof.Machine

/-- Settles O15: each writes what its function of spec/44_fp12.md section 1 gives, the product with that by `v` written
out. -/
theorem fp12ArithmeticResults : Obligations.Fp12ArithmeticResults := by
  unfold Obligations.Fp12ArithmeticResults
  intro s
  refine ⟨fun a imm => rfl, fun a b x held => ?_, fun a b c x y heldB heldC => ?_, fun a b c x n heldB heldC => ?_,
    fun a b c x y heldB heldC => ?_, fun a b x held => ?_⟩
  · have readB : s.readT b = .ok x := (readReg_eq_ok 5 s.t b x).2 held
    exact ⟨compute1_of_ok readB id (s.setT a), compute1_of_ok readB Fp12.neg (s.setT a),
      compute1_of_ok readB Fp12.conj (s.setT a), compute1_of_ok readB Fp12.sqr (s.setT a),
      compute1_of_ok readB Fp12.cube (s.setT a), compute1_of_ok readB Fp12.halve (s.setT a),
      fun n _ => compute1_of_ok readB (Fp12.powp · n.toNat) (s.setT a)⟩
  · have readB : s.readT b = .ok x := (readReg_eq_ok 5 s.t b x).2 heldB
    have readC : s.readT c = .ok y := (readReg_eq_ok 5 s.t c y).2 heldC
    rw [← Fp6.mulv_eq_mul]
    exact ⟨compute2_of_ok readB readC Fp12.add (s.setT a), compute2_of_ok readB readC Fp12.sub (s.setT a),
      compute2_of_ok readB readC Fp12.mul (s.setT a)⟩
  · have readB : s.readT b = .ok x := (readReg_eq_ok 5 s.t b x).2 heldB
    have readC : s.readK c = .ok n := (readReg_eq_ok 1 s.k c n).2 heldC
    exact ⟨compute2_of_ok readB readC _ (s.setT a), compute2_of_ok readB readC _ (s.setT a)⟩
  · have readB : s.readS b = .ok x := (readReg_eq_ok 4 s.s b x).2 heldB
    have readC : s.readS c = .ok y := (readReg_eq_ok 4 s.s c y).2 heldC
    exact compute2_of_ok readB readC Fp12.mk (s.setT a)
  · have readB : s.readT b = .ok x := (readReg_eq_ok 5 s.t b x).2 held
    exact ⟨compute1_of_ok readB _ (s.setS a), compute1_of_ok readB _ (s.setS a)⟩

/-! ### The cyclotomic subgroup -/

theorem toNat_exponent_zero : (0 : BitVec 384).toNat = 0 := BitVec.toNat_zero

theorem toNat_exponent_one : (1 : BitVec 384).toNat = 1 := BitVec.toNat_one (by decide)

section
variable {s : State} {a b : TReg} {c : KReg} {x : Fp12} {n : BitVec 384}

theorem exec_fp12Cycsqr_of_inCyclotomic (readB : s.readT b = .ok x) (member : Fp12.inCyclotomic x = true) :
    exec (.fp12Cycsqr a b) s = .next (s.setT a (Fp12.sqr x)).advance := by
  rw [exec, execFp12Cycsqr, compute1_of_ok readB, id, if_pos member]

theorem exec_fp12Cycsqr_of_not_inCyclotomic (readB : s.readT b = .ok x) (outside : Fp12.inCyclotomic x = false) :
    exec (.fp12Cycsqr a b) s = .next (s.setT a (Fp12.unspecified s.draws)).drew.advance := by
  rw [exec, execFp12Cycsqr, compute1_of_ok readB, id, outside, if_neg Bool.false_ne_true]

/-- Exponents 0 and 1 come before the test of membership. -/
theorem exec_fp12Cycpow (readB : s.readT b = .ok x) (readC : s.readK c = .ok n) : exec (.fp12Cycpow a b c) s =
    .next (if n.toNat = 0 then s.setT a Fp12.one
      else if n.toNat = 1 then s.setT a x
      else if Fp12.inCyclotomic x then s.setT a (Fp12.pow x n.toNat)
      else (s.setT a (Fp12.unspecified s.draws)).drew).advance := by
  rw [exec, execFp12Cycpow, compute2_of_ok readB readC]
  simp only [← BitVec.toNat_inj, toNat_exponent_zero, toNat_exponent_one]

/-- Exponent 0 writes 1 whatever the source (R353). -/
theorem exec_fp12Cycpow_zero (readB : s.readT b = .ok x) (readC : s.readK c = .ok 0) :
    exec (.fp12Cycpow a b c) s = .next (s.setT a Fp12.one).advance := by
  rw [exec_fp12Cycpow readB readC, if_pos toNat_exponent_zero]

/-- Exponent 1 copies the source, whatever it is (R353). -/
theorem exec_fp12Cycpow_one (readB : s.readT b = .ok x) (readC : s.readK c = .ok 1) :
    exec (.fp12Cycpow a b c) s = .next (s.setT a x).advance := by
  rw [exec_fp12Cycpow readB readC, toNat_exponent_one, if_neg one_ne_zero, if_pos rfl]

/-- In the subgroup exponents 0 and 1 are no exception. -/
theorem exec_fp12Cycpow_of_inCyclotomic (readB : s.readT b = .ok x) (readC : s.readK c = .ok n)
    (member : Fp12.inCyclotomic x = true) :
    exec (.fp12Cycpow a b c) s = .next (s.setT a (Fp12.pow x n.toNat)).advance := by
  rw [exec_fp12Cycpow readB readC, if_pos member]
  split_ifs with zero one
  · rw [zero, Fp12.pow_zero_eq]
  · rw [one, Fp12.pow_one_eq]
  · rfl

/-- Outside it a draw answers for every greater exponent (U1). -/
theorem exec_fp12Cycpow_of_not_inCyclotomic (readB : s.readT b = .ok x) (readC : s.readK c = .ok n)
    (outside : Fp12.inCyclotomic x = false) (large : 2 ≤ n.toNat) :
    exec (.fp12Cycpow a b c) s = .next (s.setT a (Fp12.unspecified s.draws)).drew.advance := by
  rw [exec_fp12Cycpow readB readC, if_neg (by omega), if_neg (by omega), outside, if_neg Bool.false_ne_true]

end

/-- Settles O19: the test of membership decides, but for exponents 0 and 1. -/
theorem cyclotomicResults : Obligations.CyclotomicResults := by
  unfold Obligations.CyclotomicResults
  intro s a b x held
  have readB : s.readT b = .ok x := (readReg_eq_ok 5 s.t b x).2 held
  have readC (c : KReg) (n : BitVec 384) (heldC : s.k[c] = ⟨true, n⟩) : s.readK c = .ok n :=
    (readReg_eq_ok 1 s.k c n).2 heldC
  refine ⟨fun nonzero fixed => ?_, fun excluded => ?_, fun c heldC => exec_fp12Cycpow_zero readB (readC c 0 heldC),
    fun c heldC => exec_fp12Cycpow_one readB (readC c 1 heldC)⟩
  · have member := (Fp12.inCyclotomic_iff x).2 ⟨nonzero, fixed⟩
    exact ⟨exec_fp12Cycsqr_of_inCyclotomic readB member,
      fun c n heldC => exec_fp12Cycpow_of_inCyclotomic readB (readC c n heldC) member⟩
  · have outside := (Fp12.not_inCyclotomic_iff x).2 excluded
    exact ⟨⟨_, exec_fp12Cycsqr_of_not_inCyclotomic readB outside⟩,
      fun c n heldC large => ⟨_, exec_fp12Cycpow_of_not_inCyclotomic readB (readC c n heldC) outside large⟩⟩

end Sys2Proof.Machine
end

section
/-! PROOFS. Curve arithmetic over any coordinate field (spec/45_g1.md section 1): the closed form of the addition
(O36), the recursion of the scalar multiple (O37), and what the tests and the affine conversions answer. -/

namespace Sys2Proof

/-! ### Addition (R367) -/

/-- The operations of a coordinate field are those of the commutative ring that `φ` embeds it in. -/
structure CurveField.EmbedsBy {F R : Type} [CommRing R] (K : CurveField F) (φ : F → R) : Prop where
  injective : φ.Injective
  map_add : ∀ x y, φ (K.add x y) = φ x + φ y
  map_sub : ∀ x y, φ (K.sub x y) = φ x - φ y
  map_mul : ∀ x y, φ (K.mul x y) = φ x * φ y
  map_scale : ∀ x n, φ (K.scale x n) = φ x * n

theorem curveFp_embedsBy_toZMod : curveFp.EmbedsBy Fp.toZMod where
  injective _ _ := Fp.toZMod_inj.1
  map_add := Fp.toZMod_add
  map_sub := Fp.toZMod_sub
  map_mul := Fp.toZMod_mul
  map_scale := Fp.toZMod_scale

@[simp] theorem Fp2.toRing_scale (x : Fp2) (n : Nat) : Fp2.toRing (Fp2.scale x n) = Fp2.toRing x * n := by
  ext <;> simp [Fp2.toRing, Fp2.scale]

theorem curveFp2_embedsBy_toRing : curveFp2.EmbedsBy Fp2.toRing where
  injective := Fp2.toRing_injective
  map_add := Fp2.toRing_add
  map_sub := Fp2.toRing_sub
  map_mul := Fp2.toRing_mul
  map_scale := Fp2.toRing_scale

/-- The sum of R367, its cross terms as sums of products and its tripled term as a multiple by 3. -/
def Proj.closedForm {F : Type} (K : CurveField F) (P Q : Proj F) : Proj F :=
  let t0 := K.mul P.x Q.x
  let t1 := K.mul P.y Q.y
  let t3 := K.add (K.mul P.x Q.y) (K.mul Q.x P.y)
  let t5 := K.add (K.mul P.y Q.z) (K.mul Q.y P.z)
  let c := K.mul K.b3 (K.mul P.z Q.z)
  let d := K.mul K.b3 (K.add (K.mul P.x Q.z) (K.mul Q.x P.z))
  ⟨K.sub (K.mul t3 (K.sub t1 c)) (K.mul t5 d),
   K.add (K.mul (K.sub t1 c) (K.add t1 c)) (K.mul (K.scale t0 3) d),
   K.add (K.mul t5 (K.add t1 c)) (K.mul (K.scale t0 3) t3)⟩

namespace CurveField.EmbedsBy

section
variable {F R : Type} [CommRing R] {K : CurveField F} {φ : F → R} (embeds : K.EmbedsBy φ)
include embeds

/-- One product in place of two: `(a + b)(c + d) - (ac + bd) = ad + cb`. -/
theorem mul_sub_eq_cross (a b c d : F) :
    K.sub (K.mul (K.add a b) (K.add c d)) (K.add (K.mul a c) (K.mul b d)) = K.add (K.mul a d) (K.mul c b) := by
  apply embeds.injective
  simp only [embeds.map_add, embeds.map_sub, embeds.map_mul]
  ring

theorem add_add_eq_scale (a : F) : K.add (K.add a a) a = K.scale a 3 := by
  apply embeds.injective
  rw [embeds.map_add, embeds.map_add, embeds.map_scale]
  ring

theorem mul_comm_eq (a b : F) : K.mul a b = K.mul b a :=
  embeds.injective (by rw [embeds.map_mul, embeds.map_mul, mul_comm])

theorem add_eq_closedForm (P Q : Proj F) : Proj.add K P Q = Proj.closedForm K P Q := by
  simp only [Proj.add, Proj.closedForm, embeds.mul_sub_eq_cross, embeds.add_add_eq_scale]
  rw [embeds.mul_comm_eq (K.add (K.mul P.x Q.y) (K.mul Q.x P.y)) (K.scale _ 3)]

end

end CurveField.EmbedsBy

/-- A multiple by a plain integer is the product by its residue (R156). -/
theorem Fp.scale_eq_mul (x : Fp) (n : Nat) : Fp.scale x n = Fp.mul (Fp.ofNat n) x := by
  simp [← Fp.toZMod_inj, mul_comm]

/-- Settles O36: the cross terms of the sequence are those of the closed form in every commutative ring. -/
theorem additionClosedForm : Obligations.AdditionClosedForm := by
  unfold Obligations.AdditionClosedForm
  constructor
  · rintro P Q _ _ _ _ _ _ _ _ rfl rfl rfl rfl rfl rfl rfl rfl
    rw [Fp.scale_eq_mul _ 12, Fp.scale_eq_mul _ 12]
    exact curveFp_embedsBy_toZMod.add_eq_closedForm P Q
  · rintro P Q _ _ _ _ _ _ _ _ rfl rfl rfl rfl rfl rfl rfl rfl
    exact curveFp2_embedsBy_toRing.add_eq_closedForm P Q

/-! ### Scalar multiples (R371) -/

section
variable {F : Type} (K : CurveField F) (P : Proj F)

theorem Proj.scale_zero : Proj.scale K P 0 = Proj.zero K := rfl

theorem Proj.scale_one : Proj.scale K P 1 = P := by
  rw [Proj.scale, Proj.scaleBits, if_neg one_ne_zero, if_pos rfl]

/-- The bound on the halvings is that of the half, one greater. -/
theorem Proj.scale_of_two_le {n : Nat} (large : 2 ≤ n) : Proj.scale K P n =
    if n % 2 = 0 then Proj.add K (Proj.scale K P (n / 2)) (Proj.scale K P (n / 2))
    else Proj.add K (Proj.add K (Proj.scale K P (n / 2)) (Proj.scale K P (n / 2))) P := by
  rw [Proj.scale, Nat.log2_def, if_pos large, Proj.scaleBits, if_neg (by omega), if_neg (by omega)]
  rfl

variable {n : Nat} (positive : 1 ≤ n)
include positive

theorem Proj.scale_two_mul :
    Proj.scale K P (2 * n) = Proj.add K (Proj.scale K P n) (Proj.scale K P n) := by
  have half : 2 * n / 2 = n := by omega
  rw [Proj.scale_of_two_le K P (by omega), half, if_pos (by omega)]

theorem Proj.scale_two_mul_add_one : Proj.scale K P (2 * n + 1) =
    Proj.add K (Proj.add K (Proj.scale K P n) (Proj.scale K P n)) P := by
  have half : (2 * n + 1) / 2 = n := by omega
  rw [Proj.scale_of_two_le K P (by omega), half, if_neg (by omega)]

end

/-- Settles O37: the recursion is that of double-and-add, whatever the coordinate field. -/
theorem scaleRecursion : Obligations.ScaleRecursion := by
  unfold Obligations.ScaleRecursion
  refine ⟨fun P => ⟨Proj.scale_zero curveFp P, Proj.scale_one curveFp P, ?_⟩,
    fun P => ⟨Proj.scale_zero curveFp2 P, Proj.scale_one curveFp2 P, ?_⟩⟩
  · rintro n _ positive rfl
    exact ⟨Proj.scale_two_mul curveFp P positive, Proj.scale_two_mul_add_one curveFp P positive⟩
  · rintro n _ positive rfl
    exact ⟨Proj.scale_two_mul curveFp2 P positive, Proj.scale_two_mul_add_one curveFp2 P positive⟩

/-! ### Tests and affine conversions, where equality in the field is that of elements -/

section
variable {F : Type} {K : CurveField F} (eq_iff : ∀ x y, K.eq x y = true ↔ x = y)
include eq_iff

/-- R369. -/
theorem Proj.eq_iff_cross (P Q : Proj F) : Proj.eq K P Q = true ↔
    K.mul P.x Q.z = K.mul Q.x P.z ∧ K.mul P.y Q.z = K.mul Q.y P.z := by
  rw [Proj.eq, Bool.and_eq_true, eq_iff, eq_iff]

/-- R370. -/
theorem Proj.isZero_iff (P : Proj F) : Proj.isZero K P = true ↔ P.z = K.zero := eq_iff P.z K.zero

/-- R372. -/
theorem Proj.isValid_iff (P : Proj F) : Proj.isValid K P = true ↔
    K.mul (K.mul P.y P.y) P.z =
      K.add (K.mul (K.mul P.x P.x) P.x) (K.mul K.b (K.mul (K.mul P.z P.z) P.z)) := eq_iff _ _

/-- R373: only the literal affine zero gives the zero triple. -/
theorem Proj.fromAffine_eq [DecidableEq F] (x y : F) :
    Proj.fromAffine K x y = if x = K.zero ∧ y = K.one then Proj.zero K else ⟨x, y, K.one⟩ := by
  simp only [Proj.fromAffine, Bool.and_eq_true, eq_iff]

theorem Proj.toAffine_of_zero {P : Proj F} (zero : P.z = K.zero) : Proj.toAffine K P = (K.zero, K.one) :=
  if_pos ((Proj.isZero_iff eq_iff P).2 zero)

theorem Proj.toAffine_of_inv {P : Proj F} {zi : F} (nonzero : P.z ≠ K.zero) (inverse : K.inv P.z = some zi) :
    Proj.toAffine K P = (K.mul P.x zi, K.mul P.y zi) := by
  rw [Proj.toAffine, if_neg (mt (Proj.isZero_iff eq_iff P).1 nonzero), inverse]

end

/-- The curve equation of G1 in integers (R372 with `b = 4`). -/
theorem G1Point.isValid_iff (P : G1Point) : Proj.isValid curveFp P = true ↔
    P.y.val ^ 2 * P.z.val % Config.p = (P.x.val ^ 3 + 4 * P.z.val ^ 3) % Config.p := by
  rw [Proj.isValid_iff (K := curveFp) Fp.eq_iff, ← ZMod.natCast_eq_natCast_iff', ← Fp.toZMod_inj]
  simp [curveFp, Fp.toZMod_val, pow_succ]

end Sys2Proof
end

section
/-! PROOFS. The G1 instructions that write a register (O20), and the tests of points of G1 and G2 (O22). -/

namespace Sys2Proof.Machine

/-! ### Affine conversions -/

section
variable {s : State}

/-- R392, with the affine zero told by its residues. -/
theorem exec_g1Fromaff {a : GReg} {b c : FReg} {x y : Fp} (readB : s.readF b = .ok x) (readC : s.readF c = .ok y) :
    exec (.g1Fromaff a b c) s =
      .next (s.setG a (if x.val = 0 ∧ y.val = 1 then Proj.zero curveFp else ⟨x, y, Fp.one⟩)).advance := by
  simp only [← Fp.eq_zero_iff, ← Fp.eq_one_iff]
  rw [exec, execG1Fromaff, compute2_of_ok readB readC, Proj.fromAffine_eq Fp.eq_iff]
  rfl

variable {a c : FReg} {b : GReg} {P : G1Point} (readB : s.readG b = .ok P)
include readB

/-- R393: x is written first, so y is what a common destination keeps. -/
theorem exec_g1Toaff : exec (.g1Toaff a b c) s =
    .next ((s.setF a (Proj.toAffine curveFp P).1).setF c (Proj.toAffine curveFp P).2).advance :=
  compute1_of_ok readB (Proj.toAffine curveFp) fun xy => (s.setF a xy.1).setF c xy.2

theorem exec_g1Toaff_of_zero (zero : P.z = Fp.zero) :
    exec (.g1Toaff a b c) s = .next ((s.setF a Fp.zero).setF c Fp.one).advance := by
  rw [exec_g1Toaff readB, Proj.toAffine_of_zero Fp.eq_iff zero]
  rfl

theorem exec_g1Toaff_of_inv {zi : Fp} (nonzero : P.z ≠ Fp.zero) (inverse : Fp.inv P.z = some zi) :
    exec (.g1Toaff a b c) s = .next ((s.setF a (Fp.mul P.x zi)).setF c (Fp.mul P.y zi)).advance := by
  rw [exec_g1Toaff readB, Proj.toAffine_of_inv Fp.eq_iff nonzero inverse]
  rfl

end

/-! ### The statements -/

/-- Settles O20: each writes what its function of spec/45_g1.md section 1 gives, and a nonzero `z` has an inverse. -/
theorem g1Results : Obligations.G1Results := by
  unfold Obligations.G1Results
  intro s
  have readG (b : GReg) (P : G1Point) (held : s.g[b] = ⟨true, P⟩) : s.readG b = .ok P :=
    (readReg_eq_ok 6 s.g b P).2 held
  have readF (b : FReg) (x : Fp) (held : s.f[b] = ⟨true, x⟩) : s.readF b = .ok x := (readReg_eq_ok 2 s.f b x).2 held
  refine ⟨fun a => rfl, fun a b P held => ?_, fun a b c P Q heldB heldC => ?_, fun a b c P n heldB heldC => ?_,
    fun a b c x y heldB heldC => ?_, fun a b c P held => ?_, fun a b c d x y z heldB heldC heldD => ?_,
    fun a b P held => ?_⟩
  · have readB := readG b P held
    exact ⟨compute1_of_ok readB id (s.setG a), compute1_of_ok readB (Proj.dbl curveFp) (s.setG a),
      compute1_of_ok readB (Proj.neg curveFp) (s.setG a), compute1_of_ok readB G1Point.clearCofactor (s.setG a)⟩
  · exact compute2_of_ok (readG b P heldB) (readG c Q heldC) (Proj.add curveFp) (s.setG a)
  · have readC : s.readK c = .ok n := (readReg_eq_ok 1 s.k c n).2 heldC
    exact compute2_of_ok (readG b P heldB) readC _ (s.setG a)
  · exact exec_g1Fromaff (readF b x heldB) (readF c y heldC)
  · have readB := readG b P held
    rw [Ne, ← Fp.eq_zero_iff]
    refine ⟨exec_g1Toaff_of_zero readB, fun nonzero => ?_⟩
    obtain ⟨zi, inverse, -⟩ := Fp.exists_inv nonzero
    exact ⟨zi, inverse, exec_g1Toaff_of_inv readB nonzero inverse⟩
  · exact compute3_of_ok (readF b x heldB) (readF c y heldC) (readF d z heldD) Proj.mk (s.setG a)
  · have readB := readG b P held
    exact ⟨compute1_of_ok readB _ (s.setF a), compute1_of_ok readB _ (s.setF a), compute1_of_ok readB _ (s.setF a)⟩

/-- Settles O22: the tests compare elements of the coordinate field; that of the curve equation of G1 is the one in
integers. -/
theorem pointTests : Obligations.PointTests := by
  unfold Obligations.PointTests
  intro s
  refine ⟨fun b c P Q heldB heldC => ?_, fun b c P Q heldB heldC => ?_⟩
  · have readB : s.readG b = .ok P := (readReg_eq_ok 6 s.g b P).2 heldB
    have readC : s.readG c = .ok Q := (readReg_eq_ok 6 s.g c Q).2 heldC
    have isZero_iff : Proj.isZero curveFp P = true ↔ P.z.val = 0 :=
      (Proj.isZero_iff Fp.eq_iff P).trans (Fp.eq_zero_iff P.z)
    exact ⟨test2_of_ok readB readC (Proj.eq_iff_cross Fp.eq_iff P Q), test1_of_ok readB isZero_iff,
      test1_of_ok readB (G1Point.isValid_iff P)⟩
  · have readB : s.readH b = .ok P := (readReg_eq_ok 7 s.h b P).2 heldB
    have readC : s.readH c = .ok Q := (readReg_eq_ok 7 s.h c Q).2 heldC
    exact ⟨test2_of_ok readB readC (Proj.eq_iff_cross Fp2.eq_iff P Q),
      test1_of_ok readB (Proj.isZero_iff Fp2.eq_iff P), test1_of_ok readB (Proj.isValid_iff Fp2.eq_iff P)⟩

end Sys2Proof.Machine
end

section
/-! PROOFS. The endomorphism psi (O38) and the G2 instructions that write a register (O21). -/

namespace Sys2Proof

/-! ### The constants of R411 -/

theorem psiCx_mul_xi_pow : Fp2.mul psiCx (Fp2.pow xi ((Config.p - 1) / 3)) = Fp2.one := by
  obtain ⟨power, -⟩ := xi_pow_eq_frobG6 (by decide : 1 < 6)
  rw [pow_one] at power
  rw [power]
  decide +kernel

/-- The exponent is three times that of R316. -/
theorem psiCy_mul_xi_pow : Fp2.mul psiCy (Fp2.pow xi ((Config.p - 1) / 2)) = Fp2.one := by
  have half : (Config.p - 1) / 2 = (Config.p - 1) / 6 * 3 := by decide
  have power : Fp2.pow xi ((Config.p - 1) / 2) = Fp2.pow (frobG12 1) 3 := by
    rw [← xi_pow_eq_frobG12_one, half, ← Fp2.toRing_inj]
    simp only [Fp2.toRing_pow, pow_mul]
  rw [power]
  decide +kernel

theorem psi2Cx_mul_xi_pow : Fp2.mul psi2Cx (Fp2.pow xi ((Config.p ^ 2 - 1) / 3)) = Fp2.one := by
  obtain ⟨power, -⟩ := xi_pow_eq_frobG6 (by decide : 2 < 6)
  rw [power]
  decide +kernel

/-- The norm of `PSI_CX` is `PSI2_CX`. -/
theorem psiCx_mul_conj : Fp2.mul psiCx (Fp2.conj psiCx) = psi2Cx := by decide +kernel

/-- The norm of `PSI_CY` is -1. -/
theorem psiCy_mul_conj : Fp2.mul psiCy (Fp2.conj psiCy) = Fp2.neg Fp2.one := by decide +kernel

/-! ### psi twice (R412, R413) -/

theorem Fp2.conj_conj (x : Fp2) : Fp2.conj (Fp2.conj x) = x := by simp [← Fp2.toRing_inj]

theorem Fp2.neg_one_mul (x : Fp2) : Fp2.mul (Fp2.neg Fp2.one) x = Fp2.neg x := by simp [← Fp2.toRing_inj]

/-- Conjugating and multiplying by `c`, done twice, multiplies by the norm of `c`. -/
theorem Fp2.mul_conj_twice (c x : Fp2) :
    Fp2.mul c (Fp2.conj (Fp2.mul c (Fp2.conj x))) = Fp2.mul (Fp2.mul c (Fp2.conj c)) x := by
  rw [← Fp2.toRing_inj]
  simp only [Fp2.toRing_mul, Fp2.toRing_conj, star_mul', star_star, mul_assoc]

theorem G2Point.psi_psi (P : G2Point) : G2Point.psi (G2Point.psi P) = G2Point.psi2 P := by
  simp only [G2Point.psi, G2Point.psi2, Fp2.mul_conj_twice, psiCx_mul_conj, psiCy_mul_conj, Fp2.neg_one_mul,
    Fp2.conj_conj]

/-- Settles O38: `PSI_CX` and `PSI_CY` have the norms `PSI2_CX` and -1. -/
theorem psiTwiceIsPsi2 : Obligations.PsiTwiceIsPsi2 := by
  unfold Obligations.PsiTwiceIsPsi2
  exact ⟨psiCx_mul_xi_pow, psiCy_mul_xi_pow, psi2Cx_mul_xi_pow, fun P => ⟨rfl, (G2Point.psi_psi P).symm⟩⟩

end Sys2Proof

namespace Sys2Proof.Machine

/-! ### Affine conversions of G2 -/

section
variable {s : State}

/-- R427. -/
theorem exec_g2Fromaff {a : HReg} {b c : QReg} {x y : Fp2} (readB : s.readQ b = .ok x) (readC : s.readQ c = .ok y) :
    exec (.g2Fromaff a b c) s = .next
      (s.setH a (if x = Fp2.zero ∧ y = Fp2.one then Proj.zero curveFp2 else ⟨x, y, Fp2.one⟩)).advance := by
  rw [exec, execG2Fromaff, compute2_of_ok readB readC, Proj.fromAffine_eq Fp2.eq_iff]
  rfl

variable {a c : QReg} {b : HReg} {P : G2Point} (readB : s.readH b = .ok P)
include readB

/-- R428: x is written first, so y is what a common destination keeps. -/
theorem exec_g2Toaff : exec (.g2Toaff a b c) s =
    .next ((s.setQ a (Proj.toAffine curveFp2 P).1).setQ c (Proj.toAffine curveFp2 P).2).advance :=
  compute1_of_ok readB (Proj.toAffine curveFp2) fun xy => (s.setQ a xy.1).setQ c xy.2

theorem exec_g2Toaff_of_zero (zero : P.z = Fp2.zero) :
    exec (.g2Toaff a b c) s = .next ((s.setQ a Fp2.zero).setQ c Fp2.one).advance := by
  rw [exec_g2Toaff readB, Proj.toAffine_of_zero Fp2.eq_iff zero]
  rfl

theorem exec_g2Toaff_of_inv {zi : Fp2} (nonzero : P.z ≠ Fp2.zero) (inverse : Fp2.inv P.z = some zi) :
    exec (.g2Toaff a b c) s = .next ((s.setQ a (Fp2.mul P.x zi)).setQ c (Fp2.mul P.y zi)).advance := by
  rw [exec_g2Toaff readB, Proj.toAffine_of_inv Fp2.eq_iff nonzero inverse]
  rfl

end

/-! ### The statement -/

/-- Settles O21: each writes what its function of spec/45_g1.md section 1 or spec/46_g2.md section 1 gives; that of
CLRCOF reuses the names of R414's steps and is otherwise the same sequence. -/
theorem g2Results : Obligations.G2Results := by
  unfold Obligations.G2Results
  intro s
  have readH (b : HReg) (P : G2Point) (held : s.h[b] = ⟨true, P⟩) : s.readH b = .ok P :=
    (readReg_eq_ok 7 s.h b P).2 held
  have readQ (b : QReg) (x : Fp2) (held : s.q[b] = ⟨true, x⟩) : s.readQ b = .ok x := (readReg_eq_ok 3 s.q b x).2 held
  refine ⟨fun a => rfl, fun a b P held => ?_, fun a b c P Q heldB heldC => ?_, fun a b c P n heldB heldC => ?_,
    fun a b c x y heldB heldC => ?_, fun a b c P held => ?_, fun a b c d x y z heldB heldC heldD => ?_,
    fun a b P held => ?_⟩
  · have readB := readH b P held
    exact ⟨compute1_of_ok readB id (s.setH a), compute1_of_ok readB (Proj.dbl curveFp2) (s.setH a),
      compute1_of_ok readB (Proj.neg curveFp2) (s.setH a), compute1_of_ok readB G2Point.clearCofactor (s.setH a),
      compute1_of_ok readB G2Point.psi (s.setH a), compute1_of_ok readB G2Point.psi2 (s.setH a)⟩
  · exact compute2_of_ok (readH b P heldB) (readH c Q heldC) (Proj.add curveFp2) (s.setH a)
  · have readC : s.readK c = .ok n := (readReg_eq_ok 1 s.k c n).2 heldC
    exact compute2_of_ok (readH b P heldB) readC _ (s.setH a)
  · exact exec_g2Fromaff (readQ b x heldB) (readQ c y heldC)
  · have readB := readH b P held
    exact ⟨exec_g2Toaff_of_zero readB, fun _ => exec_g2Toaff_of_inv readB⟩
  · exact compute3_of_ok (readQ b x heldB) (readQ c y heldC) (readQ d z heldD) Proj.mk (s.setH a)
  · have readB := readH b P held
    exact ⟨compute1_of_ok readB _ (s.setQ a), compute1_of_ok readB _ (s.setQ a), compute1_of_ok readB _ (s.setQ a)⟩

end Sys2Proof.Machine
end

section
/-! PROOFS. How every instruction ends (O46), what a fault leaves (O44), and that a fault comes again after the return
from it (O45). -/

namespace Sys2Proof.Machine

/-! ### The causes an instruction can fault with (R522) -/

/-- A computation faults, if it does, with one of the causes 3 to 14: 1 and 2 are those of fetch and decode. -/
def ArchitecturalFaults {α : Type} (x : Except Trap α) : Prop := ∀ e, x = .error e → 3 ≤ e.cause.code.toNat

theorem Cause.code_le (c : Cause) : c.code.toNat ≤ 14 := by cases c <;> decide

theorem architecturalFaults_ok {α : Type} (v : α) : ArchitecturalFaults (.ok v : Except Trap α) := nofun

theorem architecturalFaults_error {α : Type} {c : Cause} {info : Nat} (cause : 3 ≤ c.code.toNat) :
    ArchitecturalFaults (.error ⟨c, info⟩ : Except Trap α) := fun _ same => Except.error.inj same ▸ cause

theorem architecturalFaults_bind {α β : Type} {x : Except Trap α} {g : α → Except Trap β}
    (first : ArchitecturalFaults x) (rest : ∀ v, ArchitecturalFaults (g v)) : ArchitecturalFaults (x.bind g) := by
  cases x with
  | error e => exact architecturalFaults_error (first e rfl)
  | ok v => exact rest v

theorem readReg_architecturalFaults {α : Type} {n : Nat} {code : Nat} {file : Vector (VReg α) n} {i : Fin n} :
    ArchitecturalFaults (readReg code file i) := by
  unfold readReg
  split
  · exact architecturalFaults_ok _
  · exact architecturalFaults_error (by decide)

theorem memRead_architecturalFaults {s : State} {ea n : Nat} : ArchitecturalFaults (s.memRead ea n) := by
  unfold State.memRead
  split
  · exact architecturalFaults_error (by decide)
  · exact architecturalFaults_ok _

theorem orRaise_architecturalFaults {α : Type} {c : Cause} (cause : 3 ≤ c.code.toNat) {x : Option α} :
    ArchitecturalFaults (orRaise c x) := by
  cases x with
  | some v => exact architecturalFaults_ok v
  | none => exact architecturalFaults_error cause

theorem parseFp_architecturalFaults {ea : Nat} {bytes : List (BitVec 8)} : ArchitecturalFaults (parseFp ea bytes) := by
  unfold parseFp
  split
  · exact architecturalFaults_ok _
  · exact architecturalFaults_error (by decide)

theorem parseFp2_architecturalFaults {ea : Nat} {bytes : List (BitVec 8)} :
    ArchitecturalFaults (parseFp2 ea bytes) :=
  architecturalFaults_bind parseFp_architecturalFaults fun _ =>
    architecturalFaults_bind parseFp_architecturalFaults fun _ => architecturalFaults_ok _

theorem parseFp6_architecturalFaults {ea : Nat} {bytes : List (BitVec 8)} :
    ArchitecturalFaults (parseFp6 ea bytes) :=
  architecturalFaults_bind parseFp2_architecturalFaults fun _ =>
    architecturalFaults_bind parseFp2_architecturalFaults fun _ =>
      architecturalFaults_bind parseFp2_architecturalFaults fun _ => architecturalFaults_ok _

theorem parseFp12_architecturalFaults {ea : Nat} {bytes : List (BitVec 8)} :
    ArchitecturalFaults (parseFp12 ea bytes) :=
  architecturalFaults_bind parseFp6_architecturalFaults fun _ =>
    architecturalFaults_bind parseFp6_architecturalFaults fun _ => architecturalFaults_ok _

theorem withHeader_architecturalFaults {α : Type} {n : Nat} {buf : List (BitVec 8)} {zero : α}
    {point : Bool → Except Trap α} (body : ∀ sign, ArchitecturalFaults (point sign)) :
    ArchitecturalFaults (Codec.withHeader n buf zero point) := by
  unfold Codec.withHeader
  dsimp only
  split_ifs
  · exact architecturalFaults_error (by decide)
  · exact architecturalFaults_ok _
  · exact architecturalFaults_error (by decide)
  · exact body _

theorem decodeG1_architecturalFaults {buf : List (BitVec 8)} : ArchitecturalFaults (Codec.decodeG1 buf) := by
  refine withHeader_architecturalFaults fun sign => ?_
  dsimp only
  split
  · exact architecturalFaults_error (by decide)
  · unfold Codec.liftG1
    split
    · exact architecturalFaults_error (by decide)
    · exact architecturalFaults_ok _

theorem decodeG2_architecturalFaults {buf : List (BitVec 8)} : ArchitecturalFaults (Codec.decodeG2 buf) := by
  refine withHeader_architecturalFaults fun sign => ?_
  dsimp only
  split
  · exact architecturalFaults_error (by decide)
  · unfold Codec.liftG2
    split
    · exact architecturalFaults_error (by decide)
    · exact architecturalFaults_ok _

theorem pairingOperands_architecturalFaults {P : G1Point} {Q : G2Point} :
    ArchitecturalFaults (pairingOperands P Q) := by
  unfold pairingOperands
  split_ifs
  · exact architecturalFaults_error (by decide)
  · exact architecturalFaults_error (by decide)
  · exact architecturalFaults_error (by decide)
  · exact architecturalFaults_error (by decide)
  · exact architecturalFaults_ok _

/-! ### One instruction in two states: as found, and after a fault, its return and a restart (R36, R536) -/

/-- `CLRFAULT` and `START` after a fault leave the state before it, with `STATE` RUNNING and no fault recorded. -/
def State.restarted (s : State) : State := { s with run := .running, faultCause := 0, faultPc := 0, faultInfo := 0 }

theorem State.restarted_raise (s : State) (e : Trap) : s.restarted.raise e = s.raise e := rfl

/-- The two computations, begun in `s` and in `s.restarted`, end in the same fault, or both in some state, the first
with the run state of `s`. -/
inductive FaultAlike (s : State) : Except Trap State → Except Trap State → Prop
  | error {c : Cause} {info : Nat} (cause : 3 ≤ c.code.toNat) : FaultAlike s (.error ⟨c, info⟩) (.error ⟨c, info⟩)
  | ok {u u' : State} (run : u.run = s.run) : FaultAlike s (.ok u) (.ok u')

/-- An instruction's answers in `s` and in `s.restarted`: the same fault, or two completions, the first with the run
state of `s` or, for `HALT`, HALTED. -/
inductive EndAlike (s : State) : Result → Result → Prop
  | fault {c : Cause} {info : Nat} (cause : 3 ≤ c.code.toNat) :
    EndAlike s (.next (s.raise ⟨c, info⟩)) (.next (s.restarted.raise ⟨c, info⟩))
  | complete {u u' : State} (run : u.run = s.run ∨ u.run = .halted) : EndAlike s (.next u) (.next u')

section
variable {s : State}

theorem faultAlike_bind {α : Type} {x : Except Trap α} {g g' : α → Except Trap State}
    (first : ArchitecturalFaults x) (rest : ∀ v, FaultAlike s (g v) (g' v)) :
    FaultAlike s (x.bind g) (x.bind g') := by
  cases x with
  | error e => exact .error (first e rfl)
  | ok v => exact rest v

theorem faultAlike_memWrite {ea : Nat} {bytes : List (BitVec 8)} :
    FaultAlike s (s.memWrite ea bytes) (s.restarted.memWrite ea bytes) := by
  by_cases beyond : s.sizes.dmemBytes < ea + bytes.length
  · have beyond' : s.restarted.sizes.dmemBytes < ea + bytes.length := beyond
    rw [State.memWrite, State.memWrite, if_pos beyond, if_pos beyond']
    exact .error (by decide)
  · have fits : ¬ s.restarted.sizes.dmemBytes < ea + bytes.length := beyond
    rw [State.memWrite, State.memWrite, if_neg beyond, if_neg fits]
    exact .ok rfl

theorem complete_endAlike {r r' : Except Trap State} (alike : FaultAlike s r r') :
    EndAlike s (complete s r) (complete s.restarted r') := by
  cases alike with
  | error cause => exact .fault cause
  | ok run => exact .complete (.inl run)

theorem load_endAlike {α : Type} {ea n : Nat} {parse : List (BitVec 8) → Except Trap α} {write write' : α → State}
    (parsed : ∀ bytes, ArchitecturalFaults (parse bytes)) (kept : ∀ v, (write v).run = s.run) :
    EndAlike s (load s ea n parse write) (load s.restarted ea n parse write') :=
  complete_endAlike (faultAlike_bind memRead_architecturalFaults fun bytes =>
    faultAlike_bind (parsed bytes) fun v => .ok (kept v))

theorem decodePoint_endAlike {α : Type} {c : AReg} {ea n : Nat} {dec : List (BitVec 8) → Except Trap α}
    {write write' : α → State} (decoded : ∀ bytes, ArchitecturalFaults (dec bytes))
    (kept : ∀ v, (write v).run = s.run) :
    EndAlike s (decodePoint s c ea n dec write) (decodePoint s.restarted c ea n dec write') := by
  have sameLength : s.restarted.readA c = s.readA c := rfl
  unfold decodePoint
  rw [sameLength]
  split
  · exact load_endAlike decoded kept
  · exact .fault (by decide)

theorem execFp12Cycsqr_endAlike {a b : TReg} : EndAlike s (execFp12Cycsqr a b s) (execFp12Cycsqr a b s.restarted) := by
  refine complete_endAlike (faultAlike_bind readReg_architecturalFaults fun x => .ok ?_)
  dsimp only
  split_ifs <;> rfl

theorem execFp12Cycpow_endAlike {a b : TReg} {c : KReg} :
    EndAlike s (execFp12Cycpow a b c s) (execFp12Cycpow a b c s.restarted) := by
  refine complete_endAlike (faultAlike_bind readReg_architecturalFaults fun x =>
    faultAlike_bind readReg_architecturalFaults fun n => .ok ?_)
  dsimp only
  split_ifs <;> rfl

end

/-! ### Every instruction -/

/-- One arm for each way of ending: what can fault is the same in both states, and comes before every write. -/
theorem exec_endAlike (i : Instr) (s : State) : EndAlike s (exec i s) (exec i s.restarted) := by
  cases i with
  | halt => exact .complete (.inr rfl)
  | nop | j | bt | bf | banz | jr | kLi | fpLi | fp2Li | fp6Li | fp12Li | g1Zero | g2Zero => exact .complete (.inl rfl)
  | trap => exact .fault (by decide)
  | jal | aLi | aAddi => exact .complete (.inl (State.setA_run _ _ _))
  | kSt | fpSt | fp2St | fp6St | fp12St | g1Enc | g2Enc =>
    exact complete_endAlike (faultAlike_bind readReg_architecturalFaults fun _ => faultAlike_memWrite)
  | kLd => exact load_endAlike (fun _ => architecturalFaults_ok _) fun _ => rfl
  | fpLd => exact load_endAlike (fun _ => parseFp_architecturalFaults) fun _ => rfl
  | fp2Ld => exact load_endAlike (fun _ => parseFp2_architecturalFaults) fun _ => rfl
  | fp6Ld => exact load_endAlike (fun _ => parseFp6_architecturalFaults) fun _ => rfl
  | fp12Ld => exact load_endAlike (fun _ => parseFp12_architecturalFaults) fun _ => rfl
  | g1Dec => exact decodePoint_endAlike (fun _ => decodeG1_architecturalFaults) fun _ => rfl
  | g2Dec => exact decodePoint_endAlike (fun _ => decodeG2_architecturalFaults) fun _ => rfl
  -- one source
  | kMov | kModr | fpMov | fpNeg | fpSqr | fpCube | fpHalve | fp2Mov | fp2Neg | fp2Sqr | fp2Cube | fp2Halve | fp2Get
  | fp6Mov | fp6Neg | fp6Sqr | fp6Cube | fp6Halve | fp6Get | fp12Mov | fp12Neg | fp12Sqr | fp12Cube | fp12Halve
  | fp12Get | fp12Powp | fp12Conj | g1Mov | g1Dbl | g1Neg | g1Clrcof | g1Get | g2Mov | g2Dbl | g2Neg | g2Clrcof
  | g2Get | g2Psi | g2Psi2 | g1Toaff | g2Toaff | fpIszero | fpIsone | fp2Iszero | fp2Isone | fp6Iszero | fp6Isone
  | fp12Iszero | fp12Isone | g1Iszero | g1Isvalid | g2Iszero | g2Isvalid =>
    exact complete_endAlike (faultAlike_bind readReg_architecturalFaults fun _ => .ok rfl)
  -- two sources
  | fpAdd | fpSub | fpMul | fpScale | fpPow | fp2Add | fp2Sub | fp2Mul | fp2Scale | fp2Pow | fp2Pack | fp6Add | fp6Sub
  | fp6Mul | fp6Scale | fp6Pow | fp12Add | fp12Sub | fp12Mul | fp12Scale | fp12Pow | fp12Pack | g1Add | g1Scale
  | g1Fromaff | g2Add | g2Scale | g2Fromaff | fpEq | fp2Eq | fp6Eq | fp12Eq | g1Eq | g2Eq =>
    exact complete_endAlike (faultAlike_bind readReg_architecturalFaults fun _ =>
      faultAlike_bind readReg_architecturalFaults fun _ => .ok rfl)
  -- three sources
  | fp6Pack | g1Pack | g2Pack =>
    exact complete_endAlike (faultAlike_bind readReg_architecturalFaults fun _ =>
      faultAlike_bind readReg_architecturalFaults fun _ =>
        faultAlike_bind readReg_architecturalFaults fun _ => .ok rfl)
  -- operations without a value for some operands
  | fpInv | fp2Inv | fp6Inv | fp12Inv | fpSqrt | fp2Sqrt | finalExp | finalVerify =>
    exact complete_endAlike (faultAlike_bind readReg_architecturalFaults fun _ =>
      faultAlike_bind (orRaise_architecturalFaults (by decide)) fun _ => .ok rfl)
  | fpDiv | fp2Div | fp6Div | fp12Div =>
    exact complete_endAlike (faultAlike_bind readReg_architecturalFaults fun _ =>
      faultAlike_bind readReg_architecturalFaults fun _ =>
        faultAlike_bind (orRaise_architecturalFaults (by decide)) fun _ => .ok rfl)
  | miller =>
    exact complete_endAlike (faultAlike_bind readReg_architecturalFaults fun _ =>
      faultAlike_bind readReg_architecturalFaults fun _ =>
        faultAlike_bind pairingOperands_architecturalFaults fun _ => .ok rfl)
  | fp12Cycsqr => exact execFp12Cycsqr_endAlike
  | fp12Cycpow => exact execFp12Cycpow_endAlike

/-- An instruction that ends FAULTED, begun in a state that is not, has raised a fault, and would raise it again. -/
theorem exec_faulted {i : Instr} {s t : State} (notFaulted : s.run ≠ .faulted) (h : exec i s = .next t)
    (faulted : t.run = .faulted) :
    ∃ e : Trap, 3 ≤ e.cause.code.toNat ∧ t = s.raise e ∧ exec i s.restarted = .next (s.raise e) := by
  have alike := exec_endAlike i s
  rw [h] at alike
  generalize again : exec i s.restarted = result at alike
  cases alike with
  | fault cause => exact ⟨_, cause, rfl, congrArg _ (s.restarted_raise _)⟩
  | complete run =>
    rcases run with run | run
    · exact absurd (run.symm.trans faulted) notFaulted
    · cases run.symm.trans faulted

/-! ### The statements -/

/-- Settles O44: the fault was raised in the state found, and its cause is one of an instruction's. -/
theorem faultsArePrecise : Obligations.FaultsArePrecise := by
  unfold Obligations.FaultsArePrecise
  intro i s t notFaulted h faulted
  obtain ⟨e, cause, rfl, -⟩ := exec_faulted notFaulted h faulted
  exact ⟨e.cause.code, e.info, cause, e.cause.code_le, rfl⟩

/-- Settles O45: the state restarted after the fault is the state found but for the fault registers, which no
instruction looks at. -/
theorem faultsRepeat : Obligations.FaultsRepeat := by
  unfold Obligations.FaultsRepeat
  intro i s t running h faulted
  have notFaulted : s.run ≠ .faulted := by
    rw [running]
    decide
  obtain ⟨e, -, rfl, again⟩ := exec_faulted notFaulted h faulted
  exact again

/-- Settles O46: a fault and a completion are next states, and an instruction ends in no other way. -/
theorem everyInstructionEnds : Obligations.EveryInstructionEnds := by
  unfold Obligations.EveryInstructionEnds
  intro i s
  have alike := exec_endAlike i s
  generalize exec i s = result, exec i s.restarted = again at alike
  cases alike with
  | fault => exact ⟨_, rfl⟩
  | complete => exact ⟨_, rfl⟩

end Sys2Proof.Machine
end

section
/-! PROOFS. Inverses of nonzero elements of Fp and Fp2 and the affine coordinates of a triple (spec/45_g1.md R373),
the Miller loop (O24), and the pairing instructions (O23, O25). -/

namespace Sys2Proof

/-! ### Nonzero elements have inverses, `p` being a prime that is 3 modulo 4 -/

theorem Fp.coprime_of_ne_zero {x : Fp} (nonzero : x ≠ Fp.zero) : Nat.Coprime x.val Config.p :=
  (Nat.coprime_of_lt_prime ((Fp.eq_zero_iff x).not.1 nonzero) x.isLt prime_modulus).symm

/-- A zero norm makes each coordinate a square root of minus the square of the other; -1 is no square modulo `p`. -/
theorem Fp2.norm_ne_zero {x : Fp2} (nonzero : x ≠ Fp2.zero) : Fp2.norm x ≠ Fp.zero := by
  have : Fact (Nat.Prime Config.p) := ⟨prime_modulus⟩
  have residue : Config.p % 4 = 3 := by decide
  intro zero
  have sum : Fp.toZMod x.c0 ^ 2 + Fp.toZMod x.c1 ^ 2 = 0 := by rw [← Fp2.toZMod_norm, zero, Fp.toZMod_zero]
  have imaginary : Fp.toZMod x.c1 = 0 := by
    by_contra notReal
    have opposite : Fp.toZMod x.c0 ^ 2 = -Fp.toZMod x.c1 ^ 2 := by linear_combination sum
    exact ZMod.mod_four_ne_three_of_sq_eq_neg_sq' notReal opposite residue
  have real : Fp.toZMod x.c0 = 0 := by simpa [imaginary] using sum
  exact nonzero (Fp2.ext_toZMod (real.trans Fp.toZMod_zero.symm) (imaginary.trans Fp.toZMod_zero.symm))

/-! ### Affine coordinates (R373) -/

/-- The coordinates that times `z` are the triple's are those that `z`'s inverse gives. -/
theorem CurveField.EmbedsBy.toAffine_eq {F R : Type} [CommRing R] {K : CurveField F} {φ : F → R}
    (embeds : K.EmbedsBy φ) (eq_iff : ∀ x y, K.eq x y = true ↔ x = y) {P : Proj F} {x y zi : F}
    (nonzero : P.z ≠ K.zero) (inverse : K.inv P.z = some zi) (product : φ P.z * φ zi = 1)
    (xz : P.x = K.mul x P.z) (yz : P.y = K.mul y P.z) : Proj.toAffine K P = (x, y) := by
  have cancels (u : F) : K.mul (K.mul u P.z) zi = u := by
    apply embeds.injective
    rw [embeds.map_mul, embeds.map_mul, mul_assoc, product, mul_one]
  rw [Proj.toAffine_of_inv eq_iff nonzero inverse, xz, yz, cancels, cancels]

theorem G1Point.isZero_iff (P : G1Point) : Proj.isZero curveFp P = true ↔ P.z.val = 0 :=
  (Proj.isZero_iff Fp.eq_iff P).trans (Fp.eq_zero_iff P.z)

theorem G2Point.isZero_iff (Q : G2Point) : Proj.isZero curveFp2 Q = true ↔ Q.z = Fp2.zero :=
  Proj.isZero_iff Fp2.eq_iff Q

theorem G1Point.toAffine_eq {P : G1Point} {x y : Fp} (nonzero : P.z ≠ Fp.zero) (xz : P.x = Fp.mul x P.z)
    (yz : P.y = Fp.mul y P.z) : Proj.toAffine curveFp P = (x, y) := by
  obtain ⟨zi, inverse, product⟩ := Fp.exists_inv_of_coprime (Fp.coprime_of_ne_zero nonzero)
  exact curveFp_embedsBy_toZMod.toAffine_eq Fp.eq_iff nonzero inverse product xz yz

theorem G2Point.toAffine_eq {P : G2Point} {x y : Fp2} (nonzero : P.z ≠ Fp2.zero) (xz : P.x = Fp2.mul x P.z)
    (yz : P.y = Fp2.mul y P.z) : Proj.toAffine curveFp2 P = (x, y) := by
  obtain ⟨zi, inverse, one⟩ := Fp2.exists_inv (Fp.coprime_of_ne_zero (Fp2.norm_ne_zero nonzero))
  have product : Fp2.toRing P.z * Fp2.toRing zi = 1 := by rw [← Fp2.toRing_mul, one, Fp2.toRing_one]
  exact curveFp2_embedsBy_toRing.toAffine_eq Fp2.eq_iff nonzero inverse product xz yz

/-! ### One step of the Miller loop by coordinates (R463 to R465) -/

/-- `mulB` of three times an element, the curve constant being `(4, 4)` (R463). -/
theorem Pairing.mulB_scale_three (x : Fp2) :
    Pairing.mulB (Fp2.scale x 3) = Fp2.mul ⟨Fp.ofNat 12, Fp.ofNat 12⟩ x := by
  have triple : Fp2.toRing ⟨Fp.ofNat 12, Fp.ofNat 12⟩ = 3 * Fp2.toRing curveFp2.b := by
    rw [mul_comm]
    exact Fp2.toRing_scale curveFp2.b 3
  rw [← Fp2.toRing_inj, Pairing.mulB, Fp2.toRing_mul, Fp2.toRing_mul, Fp2.toRing_scale, triple]
  push_cast
  ring

/-- `t4` of R463: the square of the sum less the two squares. -/
theorem Fp2.sqr_add_sub_sub (y z : Fp2) :
    Fp2.sub (Fp2.sub (Fp2.sqr (Fp2.add y z)) (Fp2.sqr z)) (Fp2.sqr y) = Fp2.scale (Fp2.mul y z) 2 := by
  rw [← Fp2.toRing_inj]
  simp only [Fp2.toRing_sub, Fp2.toRing_sqr, Fp2.toRing_add, Fp2.toRing_scale, Fp2.toRing_mul]
  push_cast
  ring

theorem Fp2.mul_assoc_eq (x y z : Fp2) : Fp2.mul (Fp2.mul x y) z = Fp2.mul x (Fp2.mul y z) := by
  simp only [← Fp2.toRing_inj, Fp2.toRing_mul, mul_assoc]

theorem Fp2.mul_comm_eq (x y : Fp2) : Fp2.mul x y = Fp2.mul y x := curveFp2_embedsBy_toRing.mul_comm_eq x y

/-- The doubling's line and point are those of `doubleAt`. -/
theorem Pairing.doublingStep_eq_doubleAt (px py : Fp) (f : Fp12) (R : G2Point) :
    (Fp12.mul f (Pairing.line (Pairing.doublingStep R).1 px py), (Pairing.doublingStep R).2) =
      Machine.doubleAt px py (f, R) := by
  simp only [Pairing.doublingStep, Machine.doubleAt, Pairing.mulB_scale_three, Fp2.sqr_add_sub_sub,
    Fp2.mul_assoc_eq _ R.x R.y]
  rfl

/-- The addition's line and point are those of `addAt`. -/
theorem Pairing.additionStep_eq_addAt (px py : Fp) (qx qy : Fp2) (f : Fp12) (R : G2Point) :
    (Fp12.mul f (Pairing.line (Pairing.additionStep qx qy R).1 px py), (Pairing.additionStep qx qy R).2) =
      Machine.addAt px py qx qy (f, R) := by
  simp only [Pairing.additionStep, Machine.addAt, Fp2.mul_comm_eq R.z,
    Fp2.mul_comm_eq (Fp2.sqr (Fp2.sub R.x (Fp2.mul qx R.z))) (Fp2.sub R.x (Fp2.mul qx R.z))]
  rfl

/-! ### The loop (R462, R466) -/

/-- The set bits of `X` below bit 63 (R8). -/
theorem seedX_testBit : ∀ i < 63, seedX.testBit i = decide (i ∈ [62, 60, 57, 48, 16]) := by decide +kernel

/-- A pass emits a triple, and one more at a set bit. -/
theorem Pairing.precomputePasses_length (qx qy : Fp2) (n : Nat) (R : G2Point) :
    (Pairing.precomputePasses qx qy n R).length =
      n + ((List.range n).filter fun i => seedX.testBit i).length := by
  induction n generalizing R with
  | zero => rfl
  | succ n ih =>
    rw [Pairing.precomputePasses, List.range_succ, List.filter_append, List.length_append, List.filter_singleton]
    by_cases isSet : seedX.testBit n = true
    · simp only [isSet, if_true, cond_true, List.length_cons, ih, List.length_nil]
      omega
    · simp only [isSet, Bool.false_eq_true, if_false, cond_false, List.length_cons, ih, List.length_nil]
      omega

/-- The pass of R466 over the triples of the pass of R462 is that of `millerPass`. -/
theorem Pairing.millerPasses_succ (px py : Fp) (qx qy : Fp2) {n : Nat} (bit : n < 63) (f : Fp12) (R : G2Point) :
    Pairing.millerPasses px py (n + 1) (Pairing.precomputePasses qx qy (n + 1) R, f) =
      Pairing.millerPasses px py n (Pairing.precomputePasses qx qy n (Machine.millerPass px py qx qy (f, R) n).2,
        (Machine.millerPass px py qx qy (f, R) n).1) := by
  have emitted := seedX_testBit n bit
  rw [Machine.millerPass, ← Pairing.doublingStep_eq_doubleAt]
  by_cases member : n ∈ [62, 60, 57, 48, 16]
  · rw [decide_eq_true member] at emitted
    rw [if_pos member, ← Pairing.additionStep_eq_addAt]
    simp only [Pairing.millerPasses, Pairing.precomputePasses, emitted, if_true, Pairing.absorb]
    split <;> rfl
  · rw [decide_eq_false member] at emitted
    rw [if_neg member]
    simp only [Pairing.millerPasses, Pairing.precomputePasses, emitted, Bool.false_eq_true, if_false, Pairing.absorb]
    split <;> rfl

/-- Walking the triples that R462 lists, as R466 does, is walking the two steps together. -/
theorem Pairing.millerPasses_precomputePasses (px py : Fp) (qx qy : Fp2) {n : Nat} (bits : n ≤ 63) (f : Fp12)
    (R : G2Point) : Pairing.millerPasses px py n (Pairing.precomputePasses qx qy n R, f) =
      ((List.range n).reverse.foldl (Machine.millerPass px py qx qy) (f, R)).1 := by
  induction n generalizing f R with
  | zero => rfl
  | succ n ih =>
    rw [Pairing.millerPasses_succ px py qx qy bits, ih (by omega), List.range_succ, List.reverse_append,
      List.reverse_singleton, List.singleton_append, List.foldl_cons]

/-- Settles O24: R463 and R464 are the steps by coordinates, and the loop takes them in the order of the bits. -/
theorem millerLoop : Obligations.MillerLoop := by
  unfold Obligations.MillerLoop
  intro px py qx qy
  refine ⟨?_, ?_⟩
  · have setBits : ((List.range 63).filter fun i => seedX.testBit i).length = 5 := by decide +kernel
    rw [Pairing.precompute, Pairing.precomputePasses_length, setBits]
  · rw [Pairing.millerAffine, Pairing.precompute, Pairing.millerPasses_precomputePasses px py qx qy le_rfl]

/-! ### The final exponentiation (R467, R469) -/

theorem Fp12.isZero_iff (x : Fp12) : Fp12.isZero x = true ↔ x = Fp12.zero := Fp12.eq_iff x _

theorem Fp12.isOne_iff (x : Fp12) : Fp12.isOne x = true ↔ x = Fp12.one := Fp12.eq_iff x _

theorem Pairing.finalExp_zero : Pairing.finalExp Fp12.zero = none := if_pos ((Fp12.isZero_iff _).2 rfl)

theorem Pairing.finalExp_of_ne_zero {x : Fp12} (nonzero : x ≠ Fp12.zero) :
    Pairing.finalExp x = some (Fp12.pow x finalExponent) := if_neg (mt (Fp12.isZero_iff x).1 nonzero)

theorem Pairing.finalVerify_zero : Pairing.finalVerify Fp12.zero = none := by
  rw [Pairing.finalVerify, Pairing.finalExp_zero, Option.map_none]

theorem Pairing.finalVerify_of_ne_zero {x : Fp12} (nonzero : x ≠ Fp12.zero) :
    Pairing.finalVerify x = some (decide (Fp12.pow x finalExponent = Fp12.one)) := by
  rw [Pairing.finalVerify, Pairing.finalExp_of_ne_zero nonzero, Option.map_some, Option.some_inj, Bool.eq_iff_iff,
    Fp12.isOne_iff, decide_eq_true_iff]

end Sys2Proof

namespace Sys2Proof.Machine

/-! ### The checks of R461 -/

section
variable {P : G1Point} {Q : G2Point}

theorem pairingOperands_of_zero₁ (zero : P.z.val = 0) : pairingOperands P Q = .error ⟨.pairZero, 1⟩ :=
  if_pos ((G1Point.isZero_iff P).2 zero)

variable (nonzero₁ : P.z.val ≠ 0)
include nonzero₁

theorem pairingOperands_of_zero₂ (zero : Q.z = Fp2.zero) : pairingOperands P Q = .error ⟨.pairZero, 2⟩ := by
  rw [pairingOperands, if_neg (mt (G1Point.isZero_iff P).1 nonzero₁), if_pos ((G2Point.isZero_iff Q).2 zero)]

variable (nonzero₂ : Q.z ≠ Fp2.zero)
include nonzero₂

/-- Where neither operand is zero the curve equations decide. -/
theorem pairingOperands_of_nonzero : pairingOperands P Q =
    if !Proj.isValid curveFp P then .error ⟨.pairInvalid, 1⟩
    else if !Proj.isValid curveFp2 Q then .error ⟨.pairInvalid, 2⟩
    else .ok () := by
  rw [pairingOperands, if_neg (mt (G1Point.isZero_iff P).1 nonzero₁), if_neg (mt (G2Point.isZero_iff Q).1 nonzero₂)]

theorem pairingOperands_of_invalid₁ (invalid : Proj.isValid curveFp P = false) :
    pairingOperands P Q = .error ⟨.pairInvalid, 1⟩ := by
  rw [pairingOperands_of_nonzero nonzero₁ nonzero₂, invalid]
  rfl

variable (valid₁ : Proj.isValid curveFp P = true)
include valid₁

theorem pairingOperands_of_invalid₂ (invalid : Proj.isValid curveFp2 Q = false) :
    pairingOperands P Q = .error ⟨.pairInvalid, 2⟩ := by
  rw [pairingOperands_of_nonzero nonzero₁ nonzero₂, valid₁, invalid]
  rfl

theorem pairingOperands_of_valid (valid₂ : Proj.isValid curveFp2 Q = true) : pairingOperands P Q = .ok () := by
  rw [pairingOperands_of_nonzero nonzero₁ nonzero₂, valid₁, valid₂]
  rfl

end

/-! ### The instructions -/

section
variable {s : State} {a : TReg} {b : GReg} {c : HReg} {P : G1Point} {Q : G2Point} (readB : s.readG b = .ok P)
  (readC : s.readH c = .ok Q)
include readB readC

theorem exec_miller_of_ok (accepted : pairingOperands P Q = .ok ()) :
    exec (.miller a b c) s = .next (s.setT a (Pairing.miller P Q)).advance := by
  rw [exec, execMiller, readB, readC]
  simp only [Except.bind, accepted, complete_ok]

theorem exec_miller_of_error {e : Trap} (rejected : pairingOperands P Q = .error e) :
    exec (.miller a b c) s = .next (s.raise e) := by
  rw [exec, execMiller, readB, readC]
  simp only [Except.bind, rejected, complete_error]

end

theorem State.setTest_advance (s : State) (b : Bool) :
    (s.setTest b).advance = { s with tflag := b, pc := s.pc + 1 } := rfl

theorem exec_finalVerify_of_ne_zero {s : State} {b : TReg} {x : Fp12} (readB : s.readT b = .ok x)
    (nonzero : x ≠ Fp12.zero) : exec (.finalVerify b) s =
      .next { s with tflag := decide (Fp12.pow x finalExponent = Fp12.one), pc := s.pc + 1 } := by
  rw [exec, execFinalVerify, attemptTest1, attempt1_of_some readB _ _ (Pairing.finalVerify_of_ne_zero nonzero),
    State.setTest_advance]

/-- Settles O23: operands that pass the checks of R461 give the Miller loop of their affine points, and a nonzero
element the power. -/
theorem pairingResults : Obligations.PairingResults := by
  unfold Obligations.PairingResults
  intro s
  refine ⟨fun a b c P Q heldB heldC nonzero₁ nonzero₂ valid₁ valid₂ => ?_, fun P x y nonzero xz yz => ?_,
    fun Q x y nonzero xz yz => G2Point.toAffine_eq nonzero xz yz, fun a b x held nonzero => ?_⟩
  · have readB : s.readG b = .ok P := (readReg_eq_ok 6 s.g b P).2 heldB
    have readC : s.readH c = .ok Q := (readReg_eq_ok 7 s.h c Q).2 heldC
    exact exec_miller_of_ok readB readC (pairingOperands_of_valid nonzero₁ nonzero₂ valid₁ valid₂)
  · exact G1Point.toAffine_eq (mt (Fp.eq_zero_iff P.z).1 nonzero) xz yz
  · have readB : s.readT b = .ok x := (readReg_eq_ok 5 s.t b x).2 held
    rw [← finalExponent]
    exact ⟨attempt1_of_some readB .invZero (s.setT a) (Pairing.finalExp_of_ne_zero nonzero),
      exec_finalVerify_of_ne_zero readB nonzero⟩

/-- Settles O25: the first check of R461 that fails is the fault, and zero has no final exponentiation. -/
theorem pairingFaults : Obligations.PairingFaults := by
  unfold Obligations.PairingFaults
  intro s
  refine ⟨fun a b c P Q heldB heldC => ?_, fun a b held => ?_⟩
  · have readB : s.readG b = .ok P := (readReg_eq_ok 6 s.g b P).2 heldB
    have readC : s.readH c = .ok Q := (readReg_eq_ok 7 s.h c Q).2 heldC
    refine ⟨fun zero => ?_, fun nonzero₁ zero => ?_, fun nonzero₁ nonzero₂ invalid => ?_,
      fun nonzero₁ nonzero₂ valid₁ invalid => ?_⟩
    · exact exec_miller_of_error readB readC (pairingOperands_of_zero₁ zero)
    · exact exec_miller_of_error readB readC (pairingOperands_of_zero₂ nonzero₁ zero)
    · exact exec_miller_of_error readB readC (pairingOperands_of_invalid₁ nonzero₁ nonzero₂ invalid)
    · exact exec_miller_of_error readB readC (pairingOperands_of_invalid₂ nonzero₁ nonzero₂ valid₁ invalid)
  · have readB : s.readT b = .ok Fp12.zero := (readReg_eq_ok 5 s.t b _).2 held
    exact ⟨attempt1_of_none readB .invZero (s.setT a) Pairing.finalExp_zero,
      attempt1_of_none readB .invZero s.setTest Pairing.finalVerify_zero⟩

end Sys2Proof.Machine
end

section
/-! PROOFS. The compressed point codec (spec/48_codec.md section 1): what the header and the range say (O30), what the
encoders give (O31), what a decoded point is (O32, O33), and the instructions that decode (O29). -/

namespace Sys2Proof

/-! ### Byte strings cut in two -/

theorem fromBe_append (xs ys : List (BitVec 8)) :
    fromBe (xs ++ ys) = fromBe xs * 256 ^ ys.length + fromBe ys := by
  induction ys using List.reverseRecOn with
  | nil => simp [fromBe]
  | append_singleton ys b ih =>
    rw [← List.append_assoc, fromBe_append_singleton, ih, fromBe_append_singleton, List.length_append,
      List.length_singleton, pow_succ]
    ring

theorem fromBe_cons (b : BitVec 8) (bytes : List (BitVec 8)) :
    fromBe (b :: bytes) = b.toNat * 256 ^ bytes.length + fromBe bytes := by
  have single : fromBe [b] = b.toNat := by simp [fromBe]
  rw [← List.singleton_append, fromBe_append, single]

theorem fromBe_replicate_zero (n : Nat) : fromBe (List.replicate n 0) = 0 := by
  induction n with
  | zero => rfl
  | succ n ih =>
    rw [List.replicate_succ, fromBe_cons, ih]
    exact Nat.zero_mul _

theorem fromBe_inj {xs ys : List (BitVec 8)} (length : xs.length = ys.length) : fromBe xs = fromBe ys ↔ xs = ys := by
  refine ⟨fun same => ?_, congrArg fromBe⟩
  rw [← beBytes_fromBe xs, ← beBytes_fromBe ys, same, length]

theorem fromBe_take_drop (bytes : List (BitVec 8)) (n : Nat) :
    fromBe bytes = fromBe (bytes.take n) * 256 ^ (bytes.drop n).length + fromBe (bytes.drop n) := by
  rw [← fromBe_append, List.take_append_drop]

/-- A number written with digits `h` and `r` to the base `m`, its first digit reduced. -/
theorem mul_add_mod_mul (h k : Nat) {m r : Nat} (low : r < m) : (h * m + r) % (k * m) = h % k * m + r := by
  have positive : 0 < m := r.zero_le.trans_lt low
  have quotient : (h * m + r) / m = h := by
    rw [mul_comm, Nat.mul_add_div positive, Nat.div_eq_of_lt low, add_zero]
  rw [mul_comm k, Nat.mod_mul, quotient, Nat.mul_add_mod_self_right, Nat.mod_eq_of_lt low, mul_comm, add_comm]

/-! ### Signs: of an element that is not zero and its negative one is big (R166, R214) -/

theorem Fp.big_neg {y : Fp} (nonzero : y ≠ Fp.zero) : Fp.big (Fp.neg y) = !Fp.big y := by
  have odd : Config.p % 2 = 1 := by decide
  have below := y.isLt
  rw [Fp.big, Fp.neg_val nonzero, Fp.big, ← decide_not, decide_eq_decide]
  omega

theorem Fp2.big_neg {y : Fp2} (nonzero : y ≠ Fp2.zero) : Fp2.big (Fp2.neg y) = !Fp2.big y := by
  simp only [Fp2.big, Fp2.neg, Fp.isZero_iff, Fp.neg_eq_zero_iff]
  split_ifs with real
  · exact Fp.big_neg fun zero => nonzero (congrArg₂ Fp2.mk zero real)
  · exact Fp.big_neg real

theorem Fp2.big_eq_decide (y : Fp2) :
    Fp2.big y = decide (Config.p < 2 * (if y.c1.val = 0 then y.c0.val else y.c1.val)) := by
  simp only [Fp2.big, Fp.isZero_iff, Fp.eq_zero_iff]
  split <;> rfl

theorem Fp2.neg_eq_zero_iff (y : Fp2) : Fp2.neg y = Fp2.zero ↔ y = Fp2.zero := by
  rw [← Fp2.toRing_inj, Fp2.toRing_neg, Fp2.toRing_zero, neg_eq_zero, ← Fp2.toRing_zero, Fp2.toRing_inj]

theorem Fp.mul_neg_self (y : Fp) : Fp.mul (Fp.neg y) (Fp.neg y) = Fp.mul y y := by simp [← Fp.toZMod_inj]

theorem Fp.mul_self_of_sqrt {x r : Fp} (root : Fp.sqrt x = some r) : Fp.mul r r = x := by
  unfold Fp.sqrt at root
  dsimp only at root
  split_ifs at root with squares
  exact Option.some.inj root ▸ squares

theorem Fp.ofNat_val (x : Fp) : Fp.ofNat x.val = x := Fin.ext (Nat.mod_eq_of_lt x.isLt)

theorem Fp.mul_one_eq (x : Fp) : Fp.mul x Fp.one = x := by simp [← Fp.toZMod_inj]

/-- The right side of the equation of G1, in integers (R9, R493). -/
theorem Fp.cube_add_four (x : Fp) : Fp.add (Fp.cube x) curveFp.b = Fp.ofNat (x.val ^ 3 + 4) := by
  simp [← Fp.toZMod_inj, Fp.cube_eq_ofNat, curveFp]

end Sys2Proof

namespace Sys2Proof.Machine

/-! ### The header byte (R490) -/

theorem Codec.compressed_eq (h : BitVec 8) : Codec.compressed h = h.getLsbD 7 := by
  revert h
  decide +kernel

theorem Codec.infinite_eq (h : BitVec 8) : Codec.infinite h = h.getLsbD 6 := by
  revert h
  decide +kernel

theorem Codec.signed_eq (h : BitVec 8) : Codec.signed h = h.getLsbD 5 := by
  revert h
  decide +kernel

theorem Codec.masked_toNat (h : BitVec 8) : (h &&& 0x1F).toNat = h.toNat % 32 := by
  revert h
  decide +kernel

/-- A byte with its header bits masked, and the header of a point ORed in again. -/
theorem Codec.masked_or_header : ∀ h : BitVec 8, Codec.compressed h = true → Codec.infinite h = false →
    (h &&& 0x1F) ||| 0x80 ||| (if Codec.signed h then 0x20 else 0) = h := by
  decide +kernel

theorem Codec.or_header_toNat : ∀ (h : BitVec 8) (big : Bool), h.toNat < 32 →
    (h ||| 0x80 ||| (if big then 0x20 else 0)).toNat = h.toNat + 128 + if big then 32 else 0 := by
  decide +kernel

/-! ### Masking and ORing in the first byte, in numbers -/

theorem Codec.fromBe_unmask {buf : List (BitVec 8)} {n : Nat} (length : buf.length = n + 1) :
    fromBe (Codec.unmask buf) = fromBe buf % (32 * 256 ^ n) := by
  cases buf with
  | nil => cases length
  | cons h tail =>
    obtain rfl : tail.length = n := Nat.succ.inj length
    rw [Codec.unmask, List.headD_cons, List.tail_cons, fromBe_cons, fromBe_cons, Codec.masked_toNat,
      mul_add_mod_mul _ _ (fromBe_lt tail)]

theorem Codec.unmask_length {buf : List (BitVec 8)} {n : Nat} (length : buf.length = n + 1) :
    (Codec.unmask buf).length = n + 1 := by
  simp [Codec.unmask, length]

/-- ORing the header into the first byte of a number that leaves its bits free adds them. -/
theorem Codec.addHeader_beBytes (big : Bool) {n v : Nat} (free : v < 32 * 256 ^ n) :
    Codec.addHeader big (beBytes (n + 1) v) =
      beBytes (n + 1) (v + 128 * 256 ^ n + if big then 32 * 256 ^ n else 0) := by
  have spelled : fromBe (beBytes (n + 1) v) = v := by
    rw [fromBe_beBytes]
    exact Nat.mod_eq_of_lt (free.trans_le (by rw [pow_succ]; omega))
  have length := beBytes_length (n + 1) v
  cases split : beBytes (n + 1) v with
  | nil => simp [split] at length
  | cons h tail =>
    obtain rfl : tail.length = n := by simpa [split] using length
    rw [split, fromBe_cons] at spelled
    have clear : h.toNat < 32 := by
      by_contra large
      have : 32 * 256 ^ tail.length ≤ h.toNat * 256 ^ tail.length := Nat.mul_le_mul_right _ (Nat.not_lt.1 large)
      omega
    have number : fromBe (Codec.addHeader big (h :: tail)) =
        v + 128 * 256 ^ tail.length + if big then 32 * 256 ^ tail.length else 0 := by
      rw [Codec.addHeader, List.headD_cons, List.tail_cons, fromBe_cons, Codec.or_header_toNat h big clear, ← spelled]
      split_ifs <;> ring
    rw [← number]
    exact (beBytes_fromBe (Codec.addHeader big (h :: tail))).symm

theorem Codec.addHeader_append (big : Bool) {xs : List (BitVec 8)} (nonempty : xs ≠ []) (ys : List (BitVec 8)) :
    Codec.addHeader big (xs ++ ys) = Codec.addHeader big xs ++ ys := by
  cases xs with
  | nil => exact absurd rfl nonempty
  | cons h tail => rfl

theorem Codec.addHeader_unmask {buf : List (BitVec 8)} (nonempty : buf ≠ [])
    (compressed : Codec.compressed (buf.headD 0) = true) (finite : Codec.infinite (buf.headD 0) = false) :
    Codec.addHeader (Codec.signed (buf.headD 0)) (Codec.unmask buf) = buf := by
  cases buf with
  | nil => exact absurd rfl nonempty
  | cons h tail => exact congrArg (· :: tail) (Codec.masked_or_header h compressed finite)

theorem Codec.fromBe_identity (n : Nat) : fromBe (Codec.identity (n + 1)) = 0xC0 * 256 ^ n := by
  rw [Codec.identity, fromBe_cons, fromBe_replicate_zero, Nat.add_sub_cancel, List.length_replicate]
  rfl

theorem Codec.eq_identity_iff {buf : List (BitVec 8)} {n : Nat} (length : buf.length = n + 1) :
    buf = Codec.identity (n + 1) ↔ fromBe buf = 0xC0 * 256 ^ n := by
  rw [← Codec.fromBe_identity]
  exact (fromBe_inj (length.trans (Codec.identity_length (n + 1) n.succ_pos).symm)).symm

/-! ### The header checks (R493, R494) -/

section
variable {α : Type} {n : Nat} {buf : List (BitVec 8)} {zero : α} {point : Bool → Except Trap α}

theorem Codec.withHeader_of_not_compressed (bit7 : (buf.headD 0).getLsbD 7 = false) :
    Codec.withHeader n buf zero point = .error ⟨.fmtHeader, (buf.headD 0).toNat⟩ := by
  simp only [Codec.withHeader, Codec.compressed_eq, bit7, Bool.not_false, if_true]

theorem Codec.withHeader_of_finite (bit7 : (buf.headD 0).getLsbD 7 = true) (bit6 : (buf.headD 0).getLsbD 6 = false) :
    Codec.withHeader n buf zero point = point ((buf.headD 0).getLsbD 5) := by
  simp only [Codec.withHeader, Codec.compressed_eq, Codec.infinite_eq, Codec.signed_eq, bit7, bit6, Bool.not_true,
    Bool.false_eq_true, if_false]

theorem Codec.withHeader_of_infinite (bit7 : (buf.headD 0).getLsbD 7 = true) (bit6 : (buf.headD 0).getLsbD 6 = true) :
    Codec.withHeader n buf zero point =
      if buf = Codec.identity n then .ok zero else .error ⟨.fmtHeader, (buf.headD 0).toNat⟩ := by
  simp only [Codec.withHeader, Codec.compressed_eq, Codec.infinite_eq, bit7, bit6, Bool.not_true, Bool.false_eq_true,
    if_false, if_true]

/-- With both flags only the number of the identity's bytes is one of a point. -/
theorem Codec.withHeader_infinite_cases (length : buf.length = n + 1) (bit7 : (buf.headD 0).getLsbD 7 = true)
    (bit6 : (buf.headD 0).getLsbD 6 = true) :
    (fromBe buf = 0xC0 * 256 ^ n → Codec.withHeader (n + 1) buf zero point = .ok zero) ∧
    (fromBe buf ≠ 0xC0 * 256 ^ n →
      Codec.withHeader (n + 1) buf zero point = .error ⟨.fmtHeader, (buf.headD 0).toNat⟩) := by
  rw [Codec.withHeader_of_infinite bit7 bit6]
  exact ⟨fun same => if_pos ((Codec.eq_identity_iff length).2 same),
    fun other => if_neg (mt (Codec.eq_identity_iff length).1 other)⟩

/-- A buffer that decodes is the identity's, or one of a point with the compression flag alone. -/
theorem Codec.withHeader_eq_ok {P : α} (h : Codec.withHeader n buf zero point = .ok P) :
    (Codec.infinite (buf.headD 0) = true ∧ buf = Codec.identity n ∧ P = zero) ∨
    (Codec.compressed (buf.headD 0) = true ∧ Codec.infinite (buf.headD 0) = false ∧
      point (Codec.signed (buf.headD 0)) = .ok P) := by
  unfold Codec.withHeader at h
  dsimp only at h
  split_ifs at h with notCompressed infinite same
  · exact .inl ⟨infinite, same, (Except.ok.inj h).symm⟩
  · exact .inr ⟨by simpa using notCompressed, by simpa using infinite, h⟩

end

/-! ### The point over an `x` (R493, R494) -/

/-- `P` is the point over `x` with the sign asked for. -/
structure Codec.LiftsTo {F : Type} (K : CurveField F) (big : F → Bool) (x : F) (sign : Bool) (P : Proj F) : Prop where
  x_eq : P.x = x
  z_eq : P.z = K.one
  curve : K.mul P.y P.y = K.add (K.cube x) K.b
  big_eq : P.y ≠ K.zero → big P.y = sign

/-- Of a root and its negative the one taken has the sign asked for, and both are roots. -/
theorem Codec.liftsTo_of_root {F : Type} {K : CurveField F} {big : F → Bool} {x y : F} {sign : Bool}
    (mul_neg_self : ∀ y, K.mul (K.neg y) (K.neg y) = K.mul y y)
    (big_neg : ∀ y, K.neg y ≠ K.zero → big (K.neg y) = !big y) (root : K.mul y y = K.add (K.cube x) K.b) :
    Codec.LiftsTo K big x sign ⟨x, if big y = sign then y else K.neg y, K.one⟩ := by
  by_cases same : big y = sign
  · rw [if_pos same]
    exact ⟨rfl, rfl, root, fun _ => same⟩
  · rw [if_neg same]
    refine ⟨rfl, rfl, (mul_neg_self y).trans root, fun nonzero => (big_neg y nonzero).trans ?_⟩
    exact (Bool.eq_not.2 fun equal => same equal.symm).symm

theorem Codec.LiftsTo.isValid {F R : Type} [CommRing R] {K : CurveField F} {φ : F → R} {big : F → Bool} {x : F}
    {sign : Bool} {P : Proj F} (embeds : K.EmbedsBy φ) (eq_iff : ∀ x y, K.eq x y = true ↔ x = y)
    (map_one : φ K.one = 1) (lifts : Codec.LiftsTo K big x sign P) : Proj.isValid K P = true := by
  rw [Proj.isValid_iff eq_iff, lifts.z_eq, lifts.curve, lifts.x_eq]
  apply embeds.injective
  simp only [embeds.map_mul, embeds.map_add, CurveField.cube, map_one, mul_one]

section
variable {sign : Bool}

theorem Codec.liftG1_of_none {x : Fp} (noRoot : Fp.sqrt (Fp.add (Fp.cube x) curveFp.b) = none) :
    Codec.liftG1 x sign = .error ⟨.decNotOnCurve, 0⟩ := by
  simp only [Codec.liftG1, noRoot]

theorem Codec.liftG1_of_some {x y : Fp} (root : Fp.sqrt (Fp.add (Fp.cube x) curveFp.b) = some y) :
    Codec.liftG1 x sign = .ok ⟨x, if Fp.big y = sign then y else Fp.neg y, Fp.one⟩ := by
  simp only [Codec.liftG1, root]

theorem Codec.liftG2_of_none {x : Fp2} (noRoot : Fp2.sqrt (Fp2.add (Fp2.cube x) curveFp2.b) = none) :
    Codec.liftG2 x sign = .error ⟨.decNotOnCurve, 0⟩ := by
  simp only [Codec.liftG2, noRoot]

theorem Codec.liftG2_of_some {x y : Fp2} (root : Fp2.sqrt (Fp2.add (Fp2.cube x) curveFp2.b) = some y) :
    Codec.liftG2 x sign = .ok ⟨x, if Fp2.big y = sign then y else Fp2.neg y, Fp2.one⟩ := by
  simp only [Codec.liftG2, root]

theorem Codec.liftsTo_of_liftG1 {x : Fp} {P : G1Point} (h : Codec.liftG1 x sign = .ok P) :
    Codec.LiftsTo curveFp Fp.big x sign P := by
  cases root : Fp.sqrt (Fp.add (Fp.cube x) curveFp.b) with
  | none => cases (Codec.liftG1_of_none root).symm.trans h
  | some y =>
    cases (Codec.liftG1_of_some root).symm.trans h
    exact Codec.liftsTo_of_root (K := curveFp) Fp.mul_neg_self
      (fun y nonzero => Fp.big_neg (mt (Fp.neg_eq_zero_iff y).2 nonzero)) (Fp.mul_self_of_sqrt root)

theorem Codec.liftsTo_of_liftG2 {x : Fp2} {P : G2Point} (h : Codec.liftG2 x sign = .ok P) :
    Codec.LiftsTo curveFp2 Fp2.big x sign P := by
  cases root : Fp2.sqrt (Fp2.add (Fp2.cube x) curveFp2.b) with
  | none => cases (Codec.liftG2_of_none root).symm.trans h
  | some y =>
    cases (Codec.liftG2_of_some root).symm.trans h
    exact Codec.liftsTo_of_root (K := curveFp2) Fp2.mul_neg_self
      (fun y nonzero => Fp2.big_neg (mt (Fp2.neg_eq_zero_iff y).2 nonzero)) (Fp2.sqrt_squares_not_big root).1

end

/-! ### Decoding (R493, R494) -/

section
variable {buf : List (BitVec 8)}

/-- What `decodeG1` makes of the bytes after the header checks. -/
theorem Codec.decodeG1_of_finite (bit7 : (buf.headD 0).getLsbD 7 = true) (bit6 : (buf.headD 0).getLsbD 6 = false) :
    Codec.decodeG1 buf =
      if fromBe (Codec.unmask buf) = 0 ∨ Config.p ≤ fromBe (Codec.unmask buf) then .error ⟨.decXrange, 0⟩
      else Codec.liftG1 (Fp.ofNat (fromBe (Codec.unmask buf))) ((buf.headD 0).getLsbD 5) :=
  Codec.withHeader_of_finite bit7 bit6

/-- What `decodeG2` makes of the bytes after the header checks. -/
theorem Codec.decodeG2_of_finite (bit7 : (buf.headD 0).getLsbD 7 = true) (bit6 : (buf.headD 0).getLsbD 6 = false) :
    Codec.decodeG2 buf =
      if Config.p ≤ fromBe (Codec.unmask (buf.take 48)) ∨ Config.p ≤ fromBe (buf.drop 48) ∨
          (fromBe (Codec.unmask (buf.take 48)) = 0 ∧ fromBe (buf.drop 48) = 0) then .error ⟨.decXrange, 0⟩
      else Codec.liftG2 ⟨Fp.ofNat (fromBe (Codec.unmask (buf.take 48))), Fp.ofNat (fromBe (buf.drop 48))⟩
        ((buf.headD 0).getLsbD 5) :=
  Codec.withHeader_of_finite bit7 bit6

theorem Codec.decodeG1_of_range {x : Fp} (bit7 : (buf.headD 0).getLsbD 7 = true)
    (bit6 : (buf.headD 0).getLsbD 6 = false) (number : fromBe (Codec.unmask buf) = x.val) (nonzero : x.val ≠ 0) :
    Codec.decodeG1 buf = Codec.liftG1 x ((buf.headD 0).getLsbD 5) := by
  have inRange : ¬(x.val = 0 ∨ Config.p ≤ x.val) := not_or.2 ⟨nonzero, Nat.not_le.2 x.isLt⟩
  rw [Codec.decodeG1_of_finite bit7 bit6, number, if_neg inRange, Fp.ofNat_val]

theorem Codec.decodeG2_of_range {x : Fp2} (bit7 : (buf.headD 0).getLsbD 7 = true)
    (bit6 : (buf.headD 0).getLsbD 6 = false) (first : fromBe (Codec.unmask (buf.take 48)) = x.c0.val)
    (second : fromBe (buf.drop 48) = x.c1.val) (nonzero : x ≠ Fp2.zero) :
    Codec.decodeG2 buf = Codec.liftG2 x ((buf.headD 0).getLsbD 5) := by
  have inRange : ¬(Config.p ≤ x.c0.val ∨ Config.p ≤ x.c1.val ∨ (x.c0.val = 0 ∧ x.c1.val = 0)) := by
    rintro (large | large | ⟨zero₀, zero₁⟩)
    · exact Nat.not_le.2 x.c0.isLt large
    · exact Nat.not_le.2 x.c1.isLt large
    · exact nonzero (congrArg₂ Fp2.mk ((Fp.eq_zero_iff _).2 zero₀) ((Fp.eq_zero_iff _).2 zero₁))
  rw [Codec.decodeG2_of_finite bit7 bit6, first, second, if_neg inRange, Fp.ofNat_val, Fp.ofNat_val]

/-- What a G1 buffer that decodes is, and what it decodes to. -/
theorem Codec.decodeG1_eq_ok {P : G1Point} (h : Codec.decodeG1 buf = .ok P) :
    (Codec.infinite (buf.headD 0) = true ∧ buf = Codec.identity 48 ∧ P = Proj.zero curveFp) ∨
    (Codec.compressed (buf.headD 0) = true ∧ Codec.infinite (buf.headD 0) = false ∧
      ∃ x : Fp, fromBe (Codec.unmask buf) = x.val ∧
        Codec.LiftsTo curveFp Fp.big x (Codec.signed (buf.headD 0)) P) := by
  refine (Codec.withHeader_eq_ok h).imp_right fun ⟨compressed, finite, decoded⟩ => ⟨compressed, finite, ?_⟩
  dsimp only at decoded
  split_ifs at decoded with outOfRange
  have below : fromBe (Codec.unmask buf) < Config.p := Nat.not_le.1 (not_or.1 outOfRange).2
  exact ⟨_, (Nat.mod_eq_of_lt below).symm, Codec.liftsTo_of_liftG1 decoded⟩

/-- What a G2 buffer that decodes decodes to. -/
theorem Codec.decodeG2_eq_ok {P : G2Point} (h : Codec.decodeG2 buf = .ok P) :
    (Codec.infinite (buf.headD 0) = true ∧ P = Proj.zero curveFp2) ∨
    ∃ x : Fp2, Codec.LiftsTo curveFp2 Fp2.big x (Codec.signed (buf.headD 0)) P := by
  rcases Codec.withHeader_eq_ok h with ⟨infinite, -, zero⟩ | ⟨-, -, decoded⟩
  · exact .inl ⟨infinite, zero⟩
  · dsimp only at decoded
    split_ifs at decoded
    exact .inr ⟨_, Codec.liftsTo_of_liftG2 decoded⟩

end

/-! ### Encoding (R495) -/

theorem Codec.encodeG1_of_zero {P : G1Point} (zero : P.z.val = 0) : Codec.encodeG1 P = Codec.identity 48 :=
  if_pos ((G1Point.isZero_iff P).2 zero)

theorem Codec.encodeG2_of_zero {P : G2Point} (zero : P.z = Fp2.zero) : Codec.encodeG2 P = Codec.identity 96 :=
  if_pos ((G2Point.isZero_iff P).2 zero)

theorem Codec.encodeG1_of_affine {P : G1Point} {x y : Fp} (nonzero : P.z.val ≠ 0) (xz : P.x = Fp.mul x P.z)
    (yz : P.y = Fp.mul y P.z) : Codec.encodeG1 P = Codec.addHeader (Fp.big y) (fpBytes x) := by
  rw [Codec.encodeG1, if_neg (mt (G1Point.isZero_iff P).1 nonzero),
    G1Point.toAffine_eq (mt (Fp.eq_zero_iff P.z).1 nonzero) xz yz]

theorem Codec.encodeG2_of_affine {P : G2Point} {x y : Fp2} (nonzero : P.z ≠ Fp2.zero) (xz : P.x = Fp2.mul x P.z)
    (yz : P.y = Fp2.mul y P.z) : Codec.encodeG2 P = Codec.addHeader (Fp2.big y) (fp2Bytes x) := by
  rw [Codec.encodeG2, if_neg (mt (G2Point.isZero_iff P).1 nonzero), G2Point.toAffine_eq nonzero xz yz]

/-- An element of Fp leaves the header bits free. -/
theorem Codec.addHeader_fpBytes (big : Bool) (x : Fp) : Codec.addHeader big (fpBytes x) =
    beBytes 48 (x.val + 128 * 256 ^ 47 + if big then 32 * 256 ^ 47 else 0) :=
  Codec.addHeader_beBytes big (x.isLt.trans (by decide))

/-! ### The statements -/

/-- Settles O30: the header decides first, then the range, then the root. -/
theorem decodeHeaderAndRange : Obligations.DecodeHeaderAndRange := by
  unfold Obligations.DecodeHeaderAndRange
  refine ⟨fun buf length => ⟨Codec.withHeader_of_not_compressed, Codec.withHeader_infinite_cases length,
      fun bit7 bit6 => ?_⟩,
    fun buf length => ⟨Codec.withHeader_of_not_compressed, Codec.withHeader_infinite_cases length, ?_⟩⟩
  · rw [← Codec.fromBe_unmask length]
    refine ⟨fun outOfRange => ?_, fun x number nonzero => ?_⟩
    · rw [Codec.decodeG1_of_finite bit7 bit6, if_pos outOfRange]
    · rw [Codec.decodeG1_of_range bit7 bit6 number nonzero, ← Fp.cube_add_four]
      exact ⟨Codec.liftG1_of_none, fun y => Codec.liftG1_of_some⟩
  · rintro bit7 bit6 _ _ rfl rfl
    have firstLength : (buf.take 48).length = 47 + 1 := by simp [length]
    have secondLength : (buf.drop 48).length = 48 := by simp [length]
    have halves := fromBe_take_drop buf 48
    have low := fromBe_lt (buf.drop 48)
    rw [secondLength] at halves low
    have first : fromBe buf / 256 ^ 48 = fromBe (buf.take 48) := by omega
    have second : fromBe buf % 256 ^ 48 = fromBe (buf.drop 48) := by omega
    rw [first, second, ← Codec.fromBe_unmask firstLength]
    refine ⟨fun outOfRange => ?_, ?_⟩
    · rw [Codec.decodeG2_of_finite bit7 bit6, if_pos outOfRange]
    · rintro x _ number₀ number₁ nonzero rfl
      rw [Codec.decodeG2_of_range bit7 bit6 number₀ number₁ nonzero]
      exact ⟨Codec.liftG2_of_none, fun y => Codec.liftG2_of_some⟩

/-- Settles O31: the header is added to the bytes of the affine `x`. -/
theorem encodedPoints : Obligations.EncodedPoints := by
  unfold Obligations.EncodedPoints
  refine ⟨fun P => ⟨Codec.encodeG1_of_zero, fun x y nonzero xz yz => ?_⟩,
    fun P => ⟨Codec.encodeG2_of_zero, fun x y nonzero xz yz => ?_⟩⟩
  · simp only [Codec.encodeG1_of_affine nonzero xz yz, Codec.addHeader_fpBytes, Fp.big_iff]
  · have nonempty : fpBytes x.c0 ≠ [] := List.ne_nil_of_length_pos (by simp)
    simp only [Codec.encodeG2_of_affine nonzero xz yz, fp2Bytes, Codec.addHeader_append _ nonempty,
      Codec.addHeader_fpBytes, Fp2.big_eq_decide, decide_eq_true_eq]
    rfl

/-- Settles O32: the identity is on every curve, and the point over an `x` comes from a root. -/
theorem decodedPointsAreOnTheCurve : Obligations.DecodedPointsAreOnTheCurve := by
  unfold Obligations.DecodedPointsAreOnTheCurve
  refine ⟨fun buf P h => ?_, fun buf P h => ?_⟩
  · rcases Codec.decodeG1_eq_ok h with ⟨infinite, -, rfl⟩ | ⟨-, -, x, -, lifts⟩
    · exact ⟨by decide +kernel, fun finite => absurd (infinite.symm.trans finite) (by decide)⟩
    · exact ⟨lifts.isValid curveFp_embedsBy_toZMod Fp.eq_iff Fp.toZMod_one,
        fun _ nonzero => lifts.big_eq (mt (Fp.eq_zero_iff P.y).1 nonzero)⟩
  · rcases Codec.decodeG2_eq_ok h with ⟨infinite, rfl⟩ | ⟨x, lifts⟩
    · exact ⟨by decide +kernel, fun finite => absurd (infinite.symm.trans finite) (by decide)⟩
    · exact ⟨lifts.isValid curveFp2_embedsBy_toRing Fp2.eq_iff Fp2.toRing_one, fun _ => lifts.big_eq⟩

/-- Settles O33: masking the header and adding that of the decoded point gives the buffer back. -/
theorem encodeOfDecodedG1 : Obligations.EncodeOfDecodedG1 := by
  unfold Obligations.EncodeOfDecodedG1
  intro buf P length h nonzero
  rcases Codec.decodeG1_eq_ok h with ⟨-, rfl, rfl⟩ | ⟨compressed, finite, x, number, lifts⟩
  · exact Codec.encodeG1_of_zero rfl
  · have sign : Fp.big P.y = Codec.signed (buf.headD 0) := lifts.big_eq (mt (Fp.eq_zero_iff P.y).1 nonzero)
    have one : P.z = Fp.one := lifts.z_eq
    have bytes : fpBytes P.x = Codec.unmask buf := by
      have width : (Codec.unmask buf).length = 48 := Codec.unmask_length length
      rw [lifts.x_eq, fpBytes, ← number, ← width, beBytes_fromBe]
    have affine (u : Fp) : u = Fp.mul u P.z := by rw [one, Fp.mul_one_eq]
    rw [Codec.encodeG1_of_affine (by rw [one]; decide) (affine P.x) (affine P.y), sign, bytes]
    exact Codec.addHeader_unmask (List.ne_nil_of_length_eq_add_one length) compressed finite

/-! ### The decoding instructions -/

section
variable {α : Type} {s : State} {c : AReg} {ea n : Nat} {dec : List (BitVec 8) → Except Trap α} {write : α → State}

theorem decodePoint_of_length_ne (length : (s.readA c).toNat ≠ n) :
    decodePoint s c ea n dec write = .next (s.raise ⟨.fmtLength, (s.readA c).toNat⟩) := if_neg length

theorem decodePoint_of_length_eq (length : (s.readA c).toNat = n) :
    decodePoint s c ea n dec write = load s ea n dec write := if_pos length

end

/-- Settles O29: a decode of the right length is a load with the codec as its parser. -/
theorem pointDecodes : Obligations.PointDecodes := by
  unfold Obligations.PointDecodes
  intro s b c imm
  refine ⟨fun a length => decodePoint_of_length_ne length, fun a length beyond => ?_,
    fun a length fits => ⟨fun P decoded => ?_, fun e refused => ?_⟩,
    fun a length => decodePoint_of_length_ne length, fun a length beyond => ?_,
    fun a length fits => ⟨fun P decoded => ?_, fun e refused => ?_⟩⟩
  · exact (decodePoint_of_length_eq length).trans (load_beyond beyond)
  · exact (decodePoint_of_length_eq length).trans (load_of_ok fits decoded)
  · exact (decodePoint_of_length_eq length).trans (load_of_error fits refused)
  · exact (decodePoint_of_length_eq length).trans (load_beyond beyond)
  · exact (decodePoint_of_length_eq length).trans (load_of_ok fits decoded)
  · exact (decodePoint_of_length_eq length).trans (load_of_error fits refused)

end Sys2Proof.Machine
end
